-- ==== Sys2Proof/Word.lean ====
section
/-! DEFINITION. The data units of spec/00_scope.md section 5: words of 8 bytes, bytes, 32-bit byte
addresses, initiator IDs, and the numbers of rings and of sectors. -/

namespace Sys2Proof

/-- A word is 8 bytes, little-endian (00_scope.md, "Data units"). -/
abbrev Word := BitVec 64

/-- One byte. -/
abbrev Byte := BitVec 8

/-- A 32-bit byte address. -/
abbrev Addr := BitVec 32

/-- The 4-bit initiator ID a request carries (00_scope.md, "Initiators"). -/
abbrev InitiatorId := BitVec 4

/-- Rings are numbered 0 to 7 (00_scope.md, "Names"). -/
abbrev RingNo := Fin 8

/-- The sector index within a ring; each ring owns 32 records (R9). -/
abbrev SectorNo := Fin 32

/-- The eight rings in rising order of number. -/
def allRings : List RingNo := [0, 1, 2, 3, 4, 5, 6, 7]

end Sys2Proof
end

