-- ==== Sys2Proof/Syntax.lean ====
section
/-! DEFINITION. The commands of the part: one constructor of `Instr` for each row of
spec/opcode_table.json, with the operands that the rule of the row gives it. -/

namespace Sys2Proof

/-- One word of a write with its byte mask: bit i of the mask enables byte i (12_formats section 12.3). -/
structure WriteWord where
  data : Word
  mask : Byte
  deriving DecidableEq, Repr

/-- A host-link WRITE request (R157). It carries at least one word: `first`, then `rest`. -/
structure WriteRequest where
  initiator : InitiatorId
  address : Addr
  first : WriteWord
  rest : List WriteWord
  deriving DecidableEq, Repr

/-- A host-link READ request (R157). `countCode` is the word count minus 1 (12_formats section 12.3).
Its three fields are also what a repeat matches an entry of the Delayed Read Table by (R97). -/
structure ReadRequest where
  initiator : InitiatorId
  address : Addr
  countCode : BitVec 3
  deriving DecidableEq, Repr

/-- The response kinds that the part takes as ERROR: kind 2, and the reserved kind 3 (R185). -/
inductive ErrorKind where
  | error
  | reserved
  deriving DecidableEq, Repr

/-- An owner that can wait out a backoff interval (R122). -/
inductive BackoffOwner where
  | queueHead
  | read (request : ReadRequest)
  | noticeHead
  deriving DecidableEq, Repr

/-- How a management transaction ends (R175). -/
inductive BusEnd where
  | stop
  | repeatedStart
  deriving DecidableEq, Repr

/-- The low or the high byte of the event register or of the mask register (12_formats section 12.4). -/
inductive RegisterHalf where
  | low
  | high
  deriving DecidableEq, Repr

/-- The commands of the part, one constructor for each row of spec/opcode_table.json. -/
inductive Instr where
  /-- WRITE_ARRIVAL (R160). -/
  | writeArrival (request : WriteRequest)
  /-- READ_ARRIVAL (R160). -/
  | readArrival (request : ReadRequest)
  /-- GRANT (R116): the request channel is ready to take a request. -/
  | grant
  /-- OKAY_RESPONSE (R119), with its slot tag and, for a read, one word for each word requested. -/
  | okayResponse (tag : BitVec 2) (data : List Word)
  /-- BUSY_RESPONSE (R121), with its slot tag. -/
  | busyResponse (tag : BitVec 2)
  /-- ERROR_RESPONSE (R120), with its slot tag; kind 3 is taken as ERROR (R185). -/
  | errorResponse (tag : BitVec 2) (kind : ErrorKind)
  /-- BACKOFF_EXPIRY (R122): the backoff interval of the named owner has been counted. -/
  | backoffExpiry (owner : BackoffOwner)
  /-- FILL_TIMER_EXPIRY (R49) of the named ring. -/
  | fillTimerExpiry (ring : RingNo)
  /-- DISCARD_TIMER_EXPIRY (R107) of the entry of the named read. -/
  | discardTimerExpiry (read : ReadRequest)
  /-- LRSTN_ASSERTED (R164). -/
  | lrstnAsserted
  /-- LRSTN_NEGATED (R165). -/
  | lrstnNegated
  /-- PORSTN_ASSERTED (R181). -/
  | porstnAsserted
  /-- PORSTN_NEGATED (R181), with the levels of MA1..MA0 sampled at it. -/
  | porstnNegated (ma : BitVec 2)
  /-- ENABLE (R148), with the ring number written to COMMAND. -/
  | enable (ring : BitVec 4)
  /-- STOP (R150), with the ring number written to COMMAND. -/
  | stop (ring : BitVec 4)
  /-- PURGE (R152), with the ring number written to COMMAND. -/
  | purge (ring : BitVec 4)
  /-- FLUSH_READS (R109); the ring number is only recorded (R145). -/
  | flushReads (ring : BitVec 4)
  /-- CLEAR_COUNTERS (R154); the ring number is only recorded (R145). -/
  | clearCounters (ring : BitVec 4)
  /-- NOTICE_ENABLE (R130); the ring number is only recorded (R145). -/
  | noticeEnable (ring : BitVec 4)
  /-- NOTICE_DISABLE (R131); the ring number is only recorded (R145). -/
  | noticeDisable (ring : BitVec 4)
  /-- DATAPATH_RESET (R155); the ring number is only recorded (R145). -/
  | datapathReset (ring : BitVec 4)
  /-- UNKNOWN_COMMAND (R145): a COMMAND write whose code is not one of the eight. -/
  | unknownCommand (code : Byte) (ring : BitVec 4)
  /-- DEVICE_ADDRESS (R175): a START followed by an address byte, 7 address bits and the direction. -/
  | deviceAddress (address : BitVec 7) (read : Bool)
  /-- OFFSET (R176): the two offset bytes, high byte first; `none` where the transaction is cut
  after the high byte (R175). -/
  | offset (high : Byte) (low : Option Byte)
  /-- BUS_STOP (R175): a STOP or repeated START. -/
  | busStop (kind : BusEnd)
  /-- REGISTER_WRITE (R177): a data byte written at the offset. -/
  | registerWrite (value : Byte)
  /-- EVENT_REGISTER_WRITE (R168). -/
  | eventRegisterWrite (half : RegisterHalf) (value : Byte)
  /-- MASK_WRITE (R169). -/
  | maskWrite (half : RegisterHalf) (value : Byte)
  /-- INSPECTION_SELECT (R179). -/
  | inspectionSelect (value : Byte)
  /-- SNAPSHOT_READ (R178): a byte read at the offset, and whether the master acknowledges it. -/
  | snapshotRead (acknowledged : Bool)
  /-- STATUS_BYTE_READ (R180), and whether the master acknowledges the byte. -/
  | statusByteRead (acknowledged : Bool)
  /-- TICK (R182). -/
  | tick
  deriving DecidableEq, Repr

end Sys2Proof
end

