-- ==== Sys2Proof/Decode.lean ====
section
/-! DEFINITION. The host's question which command a word spells by the table's bits. The part has no
decoder of words: its commands arrive on its links and pins, and no row of spec/opcode_table.json
gives bits. -/

namespace Sys2Proof

/-- No row of spec/opcode_table.json gives bits, so no word spells a command. -/
def decodeTableWord (_nbits _w : Nat) : Option Instr := none

end Sys2Proof
end

