-- ==== Sys2Proof/Machine/State.lean ====
section
/-! DEFINITION. The state of the part, block by block (00_scope.md section 2), as plain data, and its
value after power-on. -/

namespace Sys2Proof.Machine

/-! ### Sector Table (R9) -/

/-- The sector states of R9 and of the table of 01 section 1.4. -/
inductive SectorState where
  | free
  | filling
  | closing
  | ready
  | releasing
  | purging
  deriving DecidableEq, Repr

/-- The conditions of a message that its sector record holds (R9). -/
structure SectorFlags where
  timedOut : Bool := false
  aborted : Bool := false
  writeError : Bool := false
  trailingDrop : Bool := false
  deriving DecidableEq, Repr

/-- One sector record (R9); the default is the cleared record of R10. -/
structure SectorRecord where
  state : SectorState := .free
  seq : BitVec 16 := 0
  pending : Nat := 0
  highWater : Nat := 0
  length : Nat := 0
  flags : SectorFlags := {}
  closeTime : BitVec 32 := 0
  deriving DecidableEq, Repr

/-! ### Ring Controller (R1, R28, R143, R171) and Window Decoder (R3) -/

/-- The lifecycle states of a ring (R143). -/
inductive Lifecycle where
  | off
  | active
  | stopping
  | purging
  deriving DecidableEq, Repr

/-- The fill states of a ring (R30): IDLE, OPEN and SHADOW. -/
inductive FillState where
  | idle
  | opened
  | shadow
  deriving DecidableEq, Repr

/-- The configuration of a ring as its bytes are stored (R1, R186); the defaults are the power-on
values. `modes` holds the close mode, the full policy and the notices setting. -/
structure RingConfig where
  base : Addr := 0
  sizeCode : Byte := 0
  sectorCount : Byte := 2
  producer : InitiatorId := 0
  consumer : InitiatorId := 1
  monitors : BitVec 16 := 0
  modes : Byte := 0
  fillTimeout : BitVec 16 := 0
  marker : Word := 0
  deriving DecidableEq, Repr

/-- The six counters of a ring (R171). -/
structure RingCounters where
  delivered : BitVec 32 := 0
  lost : BitVec 32 := 0
  fillTimeouts : BitVec 32 := 0
  stalls : BitVec 32 := 0
  producerFaults : BitVec 32 := 0
  consumerFaults : BitVec 32 := 0
  deriving DecidableEq, Repr

/-- The runtime record of a ring (R28, R143); the defaults are the starting values of R28. The fill
timer is `none` while stopped, and the ticks still to be counted while it runs. -/
structure RingState where
  lifecycle : Lifecycle := .off
  fillPointer : SectorNo := 0
  fillState : FillState := .idle
  fillTimer : Option Nat := none
  nextSeq : BitVec 16 := 0
  lostCount : BitVec 16 := 0
  noticeGap : Bool := false
  counters : RingCounters := {}
  deriving DecidableEq, Repr

/-- A valid decode entry of the Window Decoder (R3). -/
structure DecodeEntry where
  base : Addr
  sectorSize : Nat
  sectorCount : Nat
  producer : InitiatorId
  consumer : InitiatorId
  monitors : BitVec 16
  deriving DecidableEq, Repr

/-- The role of an initiator in a ring (R6). -/
inductive Role where
  | producer
  | consumer
  | monitor
  | other
  deriving DecidableEq, Repr

/-- The class of a request (R4), with the ring position and role of R5 and R6. -/
inductive RequestClass where
  | pass
  | noticeReturn
  | ring (r : RingNo) (sector : SectorNo) (wordOffset : Nat) (role : Role)
  deriving DecidableEq, Repr

/-! ### Posted Write Queue (R74, R75, R83) -/

/-- The kind of a queue entry, with the sector tag that FILL, CLOSE and RELEASE carry (R75). -/
inductive EntryKind where
  | pass
  | fill (r : RingNo) (sector : SectorNo)
  | close (r : RingNo) (sector : SectorNo)
  | release (r : RingNo) (sector : SectorNo)
  deriving DecidableEq, Repr

/-- An entry of the Posted Write Queue (R75); its line is computed from its address. -/
structure QueueEntry where
  address : Addr
  words : List WriteWord
  kind : EntryKind
  attempts : BitVec 16 := 0
  deriving DecidableEq, Repr

/-- The issue state of the head (R83); BACKOFF holds the ticks still to be counted. -/
inductive IssueState where
  | waiting
  | inFlight
  | backoff (remaining : Nat)
  deriving DecidableEq, Repr

/-! ### Delayed Read Table (R93, R94) -/

/-- The result a COMPLETE entry holds (R93). -/
inductive ReadResult where
  | data (words : List Word)
  | memError
  | budget
  deriving DecidableEq, Repr

/-- The state of an entry (R94) with the fields that exist only in it: the backoff of QUEUED, the
stale flag of ISSUED, the result and the discard timer of COMPLETE. -/
inductive ReadPhase where
  | queued (backoff : Option Nat)
  | issued (stale : Bool)
  | complete (result : ReadResult) (remaining : Nat)
  deriving DecidableEq, Repr

/-- An entry of the Delayed Read Table (R93). The counted set names queue entries by their place from
the head of the Posted Write Queue, and the blocking count is its length. -/
structure ReadEntry where
  request : ReadRequest
  tag : Option (RingNo × SectorNo)
  phase : ReadPhase
  attempts : BitVec 16 := 0
  counted : List Nat
  deriving DecidableEq, Repr

/-! ### Notice Unit (R128, R129, R133 to R135) -/

/-- The notice types (12_formats section 12.2). -/
inductive NoticeType where
  | message
  | ringOff
  | purged
  deriving DecidableEq, Repr

/-- A notice as generated (R133, R134). Its LOST flag is that `lost` is not 0. -/
structure Notice where
  type : NoticeType
  ring : RingNo
  sector : SectorNo
  seq : BitVec 16
  length : Nat
  flags : SectorFlags
  gap : Bool
  lost : BitVec 16
  highWater : Nat
  closeTime : BitVec 32
  deriving DecidableEq, Repr

/-- An entry of the pending notice FIFO (R135). -/
structure PendingNotice where
  notice : Notice
  slot : Option Nat := none
  attempts : BitVec 16 := 0
  backoff : Option Nat := none
  deriving DecidableEq, Repr

/-- The Notice Unit (R128, R129); the defaults are the power-on values. -/
structure NoticeUnit where
  fifo : List PendingNotice := []
  w : BitVec 16 := 0
  wd : BitVec 16 := 0
  r : BitVec 16 := 0
  base : Addr := 0
  slotCode : Byte := 0
  returnAddress : Addr := 0
  enabled : Bool := false
  deriving DecidableEq, Repr

/-! ### Memory Link Interface (R112, R114, R116, R124) -/

/-- The owner recorded with the write slot (R114). -/
inductive WriteOwner where
  | queueHead
  | noticeHead
  deriving DecidableEq, Repr

/-- The write slot (R114). -/
inductive WriteSlot where
  | free
  | occupied (owner : WriteOwner)
  | orphaned
  deriving DecidableEq, Repr

/-- A read slot (R114); its owner is the entry of the named read. -/
inductive ReadSlot where
  | free
  | occupied (owner : ReadRequest)
  | orphaned
  deriving DecidableEq, Repr

/-- The requesters of the arbiter (R116). -/
inductive Requester where
  | pwq
  | drt
  | notice
  deriving DecidableEq, Repr

/-- A memory-link request (R112), with its slot tag. -/
inductive LinkRequest where
  | write (address : Addr) (words : List WriteWord)
  | read (tag : BitVec 2) (address : Addr) (countCode : BitVec 3)
  deriving DecidableEq, Repr

/-- The Memory Link Interface (R114, R116, R124); the defaults are the power-on values. `request` is
the MODEL's record of the request that the latest GRANT placed on the request channel. -/
structure MemoryLink where
  writeSlot : WriteSlot := .free
  readA : ReadSlot := .free
  readB : ReadSlot := .free
  next : Requester := .pwq
  budget : BitVec 16 := 4096
  backoff : Byte := 4
  request : Option LinkRequest := none
  deriving DecidableEq, Repr

/-! ### Event Unit (R166, R167, R169, R170) -/

/-- The ten fault reasons (R166). -/
inductive FaultReason where
  | memError
  | align
  | role
  | order
  | notReady
  | ringOff
  | headerPartial
  | length
  | releaseState
  | budget
  deriving DecidableEq, Repr

/-- The nine latched event flags (R167). -/
inductive EventFlag where
  | writeLost
  | memError
  | readExpired
  | noticeOverrun
  | noticeLost
  | noticeIndexBad
  | fillTimeout
  | linkReset
  | faultSent
  deriving DecidableEq, Repr

/-- The device counters (R170); `faults` holds the counter of reason code c at place c - 1. -/
structure DeviceCounters where
  writesAccepted : BitVec 32 := 0
  writesLost : BitVec 32 := 0
  readsAnswered : BitVec 32 := 0
  readsExpired : BitVec 32 := 0
  busyResponses : BitVec 32 := 0
  noticesWritten : BitVec 32 := 0
  noticesOverrun : BitVec 32 := 0
  queueFull : BitVec 32 := 0
  faults : Vector (BitVec 32) 10 := Vector.replicate 10 0
  deriving DecidableEq, Repr

/-- The Event Unit (R167, R169, R170); the defaults are the power-on values of R174. Bit i of `flags`
and of `masks` is bit i of the event register and of the mask register (12_formats section 12.4). -/
structure EventUnit where
  flags : BitVec 9 := 0
  masks : BitVec 9 := 0x1FF
  counters : DeviceCounters := {}
  deriving DecidableEq, Repr

/-! ### Host Link Interface (R159) -/

/-- A host-link response (R159). -/
inductive HostResponse where
  | accept
  | data (words : List Word)
  | retry
  | fault (reason : FaultReason)
  deriving DecidableEq, Repr

/-! ### Management Port (chapter 11) -/

/-- The fields of a ring's block of the register window (12_formats section 12.4). -/
inductive RingField where
  | base
  | sizeCode
  | sectorCount
  | producer
  | consumer
  | monitors
  | modes
  | fillTimeout
  | marker
  | lifecycle
  | fillPointer
  | fillState
  | noticeGap
  | nextSeq
  | lostCount
  | delivered
  | lost
  | fillTimeouts
  | stalls
  | producerFaults
  | consumerFaults
  deriving DecidableEq, Repr

/-- The fields of the register window (12_formats section 12.4). -/
inductive Field where
  | status
  | queueOccupancy
  | readOccupancy
  | noticeOccupancy
  | timestamp
  | discardTime
  | attemptBudget
  | backoff
  | command
  | commandResult
  | eventLow
  | eventHigh
  | maskLow
  | maskHigh
  | noticeBase
  | returnAddress
  | slotCode
  | noticeEnable
  | indexW
  | indexWd
  | indexR
  | writesAccepted
  | writesLost
  | readsAnswered
  | readsExpired
  | busyResponses
  | noticesWritten
  | noticesOverrun
  | queueFull
  | fault (index : Fin 10)
  | inspectSelect
  | snapState
  | snapPending
  | snapFlags
  | snapSeq
  | snapHighWater
  | snapLength
  | snapCloseTime
  | ring (r : RingNo) (field : RingField)
  deriving DecidableEq, Repr

/-- The write staging register while it holds a field (R177). -/
structure Staging where
  field : Field
  bytes : Vector (Option Byte) 8
  deriving DecidableEq, Repr

/-- The snapshot holding register while it holds a copy (R178). -/
structure Holding where
  field : Field
  value : BitVec 64
  deriving DecidableEq, Repr

/-- The reasons of a refused command (R144, R145). -/
inductive RefusalReason where
  | badConfig
  | overlap
  | state
  | noRing
  deriving DecidableEq, Repr

/-- The result part of the command result register (R144). -/
inductive Verdict where
  | none
  | done
  | refused (reason : RefusalReason)
  deriving DecidableEq, Repr

/-- The command result register (R144); the default is its value after PORSTn. -/
structure CommandResult where
  ring : BitVec 4 := 0
  code : Byte := 0
  verdict : Verdict := .none
  deriving DecidableEq, Repr

/-- How far the port is in a transaction (R175): not addressed, addressed for writing with the offset
still to come, taking data bytes, or sending bytes. -/
inductive Transaction where
  | idle
  | writeOffset
  | writeData
  | reading
  deriving DecidableEq, Repr

/-- The Management Port (chapter 11); the defaults are the power-on values of R181 with MA1..MA0 at 0.
`acked` and `sent` are the MODEL's record of the last acknowledgement and byte on the bus. -/
structure Port where
  address : BitVec 7 := 0x3A
  transaction : Transaction := .idle
  outOfWindow : Bool := false
  offset : BitVec 16 := 0
  staging : Option Staging := none
  holding : Option Holding := none
  inspectSelect : Byte := 0
  snapshot : SectorRecord := {}
  configLocked : Bool := false
  result : CommandResult := {}
  commandRing : BitVec 4 := 0
  acked : Bool := false
  sent : Option Byte := none
  deriving DecidableEq, Repr

/-- The reasons a step can fault. None: the spec gives every command its effect in every state, so
no meaning faults, and this type has no constructor (safe). -/
inductive Fault where
  deriving DecidableEq, Repr

/-- The reasons a step can be refused. -/
inductive Refusal where
  /-- Raised by `exec` alone, in the arm of a command that has no meaning yet (safe: the run stops). No
  arm of this model raises it. -/
  | notModelled (mnemonic : String)
  deriving DecidableEq, Repr

/-- The state of the part. `pending` is the queue of the commands that wait, and `orderChoice` counts
the choices of ring order made so far (log entry 2); both are the MODEL's own. `porstn` and `lrstn`
are true while the line is asserted. `hostResponse` is the response to the latest arrival. -/
structure State where
  pending : List Instr
  orderChoice : Nat
  porstn : Bool
  lrstn : Bool
  hostResponse : Option HostResponse
  decode : Vector (Option DecodeEntry) 8
  config : Vector RingConfig 8
  rings : Vector RingState 8
  sectors : Vector (Vector SectorRecord 32) 8
  pwq : List QueueEntry
  headIssue : IssueState
  reads : List ReadEntry
  discardTime : BitVec 16
  notices : NoticeUnit
  link : MemoryLink
  events : EventUnit
  timestamp : BitVec 32
  port : Port
  deriving DecidableEq, Repr

/-- The part right after power-on (R8, R10, R28, R91, R111, R127, R128, R174, R181), with both reset
lines negated, MA1..MA0 sampled as 0 (log entry 4) and no command waiting. -/
def State.reset : State where
  pending := []
  orderChoice := 0
  porstn := false
  lrstn := false
  hostResponse := none
  decode := Vector.replicate 8 none
  config := Vector.replicate 8 {}
  rings := Vector.replicate 8 {}
  sectors := Vector.replicate 8 (Vector.replicate 32 {})
  pwq := []
  headIssue := .waiting
  reads := []
  discardTime := 1024
  notices := {}
  link := {}
  events := {}
  timestamp := 0
  port := {}

end Sys2Proof.Machine
end

