-- ==== Sys2Proof/Machine/Flags.lean ====
section
/-! DEFINITION. The Event Unit: event flags, masks, ALRT, counters, and the answers on the host link
with the counting that each brings (chapter 10, R141, R161, R163). -/

namespace Sys2Proof.Machine

/-- A count that rises by 1 and stays at its maximum (00_scope.md, "Counting"; R172). -/
def satSucc {w : Nat} (x : BitVec w) : BitVec w :=
  if x = BitVec.allOnes w then x else x + 1

/-- The bit of a flag in the event register (12_formats section 12.4). -/
def EventFlag.bit : EventFlag → Nat
  | .writeLost => 0
  | .memError => 1
  | .readExpired => 2
  | .noticeOverrun => 3
  | .noticeLost => 4
  | .noticeIndexBad => 5
  | .fillTimeout => 6
  | .linkReset => 7
  | .faultSent => 8

/-- The flag alone, as the event register shows it. -/
def EventFlag.mask (f : EventFlag) : BitVec 9 := 1#9 <<< f.bit

/-- The code of a fault reason (12_formats section 12.3). -/
def FaultReason.code : FaultReason → Nat
  | .memError => 1
  | .align => 2
  | .role => 3
  | .order => 4
  | .notReady => 5
  | .ringOff => 6
  | .headerPartial => 7
  | .length => 8
  | .releaseState => 9
  | .budget => 10

/-- The place of a reason's counter: its code minus 1 (12_formats section 12.4). -/
def FaultReason.index (f : FaultReason) : Fin 10 := Fin.ofNat 10 (f.code - 1)

/-- A condition sets its flag; a set flag stays set (R167). -/
def State.post (s : State) (f : EventFlag) : State :=
  { s with events := { s.events with flags := s.events.flags ||| f.mask } }

/-- Whether a flag is set. -/
def State.flagSet (s : State) (f : EventFlag) : Bool := s.events.flags &&& f.mask ≠ 0

/-- ALRT is asserted while at least one flag is set and unmasked (R169). -/
def State.alrt (s : State) : Bool := decide (s.events.flags &&& ~~~s.events.masks ≠ 0)

/-- NTFY is asserted while the notice queue is enabled and Wd differs from R (R141). -/
def State.ntfy (s : State) : Bool := s.notices.enabled && decide (s.notices.wd ≠ s.notices.r)

/-- Replace the device counters. -/
def State.setCounters (s : State) (c : DeviceCounters) : State :=
  { s with events := { s.events with counters := c } }

/-- Replace the runtime record of a ring. -/
def State.setRing (s : State) (r : RingNo) (x : RingState) : State :=
  { s with rings := s.rings.set r x }

/-- The runtime record of a ring. -/
def State.ring (s : State) (r : RingNo) : RingState := s.rings[r]

/-- The configuration of a ring (R1). -/
def State.cfg (s : State) (r : RingNo) : RingConfig := s.config[r]

/-- The decode entry of a ring; `none` while it is absent (R3). -/
def State.window (s : State) (r : RingNo) : Option DecodeEntry := s.decode[r]

/-- The writes-accepted counter rises (R161, R170). -/
def State.countAccepted (s : State) : State :=
  s.setCounters { s.events.counters with writesAccepted := satSucc s.events.counters.writesAccepted }

/-- The writes-lost counter rises (R170). -/
def State.countWriteLost (s : State) : State :=
  s.setCounters { s.events.counters with writesLost := satSucc s.events.counters.writesLost }

/-- The reads-answered counter rises (R170). -/
def State.countAnswered (s : State) : State :=
  s.setCounters { s.events.counters with readsAnswered := satSucc s.events.counters.readsAnswered }

/-- The reads-expired counter rises (R170). -/
def State.countExpired (s : State) : State :=
  s.setCounters { s.events.counters with readsExpired := satSucc s.events.counters.readsExpired }

/-- The BUSY-responses counter rises (R170). -/
def State.countBusy (s : State) : State :=
  s.setCounters { s.events.counters with busyResponses := satSucc s.events.counters.busyResponses }

/-- The notices-written counter rises (R170). -/
def State.countNoticeWritten (s : State) : State :=
  s.setCounters { s.events.counters with noticesWritten := satSucc s.events.counters.noticesWritten }

/-- The notices-overrun counter rises (R170). -/
def State.countNoticeOverrun (s : State) : State :=
  s.setCounters { s.events.counters with noticesOverrun := satSucc s.events.counters.noticesOverrun }

/-- The queue-full counter rises (R77, R170). -/
def State.countQueueFull (s : State) : State :=
  s.setCounters { s.events.counters with queueFull := satSucc s.events.counters.queueFull }

/-- The fault counter of a reason rises (R166). -/
def State.countFault (s : State) (f : FaultReason) : State :=
  s.setCounters { s.events.counters with
    faults := s.events.counters.faults.set f.index (satSucc s.events.counters.faults[f.index]) }

/-- A FAULT to the ring's producer is counted in its producer-faults counter, one to its consumer or
a monitor in its consumer-faults counter, and one to another initiator in neither (R163). -/
def RingState.countFault (x : RingState) : Role → RingState
  | .producer =>
    { x with counters := { x.counters with producerFaults := satSucc x.counters.producerFaults } }
  | .consumer =>
    { x with counters := { x.counters with consumerFaults := satSucc x.counters.consumerFaults } }
  | .monitor =>
    { x with counters := { x.counters with consumerFaults := satSucc x.counters.consumerFaults } }
  | .other => x

/-- The kind code of a response: 0 ACCEPT, 1 DATA, 2 RETRY, 3 FAULT (12_formats section 12.3). -/
def HostResponse.kindCode : HostResponse → BitVec 2
  | .accept => 0
  | .data _ => 1
  | .retry => 2
  | .fault _ => 3

/-- The reason code of a response: 1 to 10 in a FAULT, and 0 in every other kind (R185). -/
def HostResponse.reasonCode : HostResponse → BitVec 4
  | .fault f => BitVec.ofNat 4 f.code
  | .accept => 0
  | .data _ => 0
  | .retry => 0

/-- The response to the request being taken (R159). -/
def State.respond (s : State) (x : HostResponse) : State := { s with hostResponse := some x }

/-- FAULT ALIGN: counted under its reason, without FAULT_SENT (R158). -/
def State.answerAlign (s : State) : State := (s.countFault .align).respond (.fault .align)

/-- A FAULT other than ALIGN: counted under its reason, and FAULT_SENT set (R166). -/
def State.answerFault (s : State) (f : FaultReason) : State :=
  ((s.countFault f).post .faultSent).respond (.fault f)

/-- A FAULT to a RING request is also counted in the ring, by role (R163). -/
def State.answerRingFault (s : State) (r : RingNo) (role : Role) (f : FaultReason) : State :=
  (s.setRing r ((s.ring r).countFault role)).answerFault f

/-- ACCEPT, counted (R161). -/
def State.answerAccept (s : State) : State := s.countAccepted.respond .accept

/-- RETRY to a write that finds the Posted Write Queue holding 32 entries (R77). -/
def State.answerQueueFull (s : State) : State := s.countQueueFull.respond .retry

/-- Writing a byte of the event register clears each flag whose bit is one; bits 7:1 of the high byte
are ignored (R168, R186). -/
def State.clearFlags (s : State) (half : RegisterHalf) (v : Byte) : State :=
  let ones : BitVec 9 := match half with
    | .low => v.setWidth 9
    | .high => (v.setWidth 9) <<< 8
  { s with events := { s.events with flags := s.events.flags &&& ~~~ones } }

/-- Writing a byte of the mask register replaces its mask bits; bits 7:1 of the high byte are ignored
(R169, R186). -/
def State.writeMask (s : State) (half : RegisterHalf) (v : Byte) : State :=
  let masks : BitVec 9 := match half with
    | .low => (s.events.masks &&& 0x100) ||| v.setWidth 9
    | .high => (s.events.masks &&& 0x0FF) ||| ((v.setWidth 9) <<< 8)
  { s with events := { s.events with masks := masks } }

end Sys2Proof.Machine
end

