-- ==== Sys2Proof/Machine/Operands.lean ====
section
/-! DEFINITION. What the part reads from a request and from a configuration: the shape check, the line,
the Window Decoder's class, position and role, the close trigger of a producer write, and the modes
and sizes a configuration names. -/

namespace Sys2Proof.Machine

/-! ### Requests -/

/-- The words of a write, in rising address order. -/
def wordsOf (q : WriteRequest) : List WriteWord := q.first :: q.rest

/-- The word count of a read: its code plus 1 (12_formats section 12.3). -/
def countOf (q : ReadRequest) : Nat := q.countCode.toNat + 1

/-- A mask with all eight enables set (00_scope.md, "Byte masks"). -/
def fullMask : Byte := 0xFF

/-- The line an address lies in: the address with its low 6 bits cleared (R75). -/
def lineOf (a : Addr) : Addr := a &&& ~~~(63#32)

/-- The line of a queue entry (R75). -/
def QueueEntry.line (e : QueueEntry) : Addr := lineOf e.address

/-- The line of a read entry (R93). -/
def ReadEntry.line (e : ReadEntry) : Addr := lineOf e.request.address

/-- The blocking count of a read entry (R93). -/
def ReadEntry.blocking (e : ReadEntry) : Nat := e.counted.length

/-- A request is aligned when its address is a multiple of 8 and it does not cross a line (R158). -/
def aligned (a : Addr) (count : Nat) : Bool :=
  decide (a.toNat % 8 = 0) && decide (a.toNat % 64 + 8 * count ≤ 64)

/-! ### Window Decoder -/

/-- A line lies in the window of a decode entry (R2, R4). -/
def DecodeEntry.covers (d : DecodeEntry) (line : Addr) : Bool :=
  decide (d.base.toNat ≤ line.toNat) &&
    decide (line.toNat + 64 ≤ d.base.toNat + d.sectorSize * d.sectorCount)

/-- The ring whose valid decode entry covers the line (R4). -/
def State.ringAt (s : State) (a : Addr) : Option RingNo :=
  allRings.find? fun r => match s.window r with
    | some d => d.covers (lineOf a)
    | none => false

/-- The role of an initiator in a decoded ring (R6). -/
def DecodeEntry.roleOf (d : DecodeEntry) (i : InitiatorId) : Role :=
  if i = d.producer then .producer
  else if i = d.consumer then .consumer
  else if d.monitors.getLsbD i.toNat then .monitor
  else .other

/-- The sector index of an address in a decoded ring (R5). -/
def DecodeEntry.sectorOf (d : DecodeEntry) (a : Addr) : SectorNo :=
  Fin.ofNat 32 ((a.toNat - d.base.toNat) / d.sectorSize)

/-- The word offset of an address in its sector (R5). -/
def DecodeEntry.wordOffsetOf (d : DecodeEntry) (a : Addr) : Nat :=
  (a.toNat - d.base.toNat) % d.sectorSize / 8

/-- One of the request's words is the return index word (R4). -/
def namesWord (a : Addr) (count : Nat) (word : Addr) : Bool :=
  (List.range count).any fun k => decide (a.toNat + 8 * k = word.toNat)

/-- The class of an aligned request (R4 to R7). -/
def State.classify (s : State) (a : Addr) (count : Nat) (i : InitiatorId) : RequestClass :=
  match s.ringAt a with
  | some r =>
    match s.window r with
    | some d => .ring r (d.sectorOf a) (d.wordOffsetOf a) (d.roleOf i)
    | none => .pass
  | none =>
    if s.notices.enabled && namesWord a count s.notices.returnAddress then .noticeReturn else .pass

/-- An address lies in sector i of a decoded ring (R2). -/
def DecodeEntry.inSector (d : DecodeEntry) (i : SectorNo) (a : Addr) : Bool :=
  decide (d.base.toNat + i.val * d.sectorSize ≤ a.toNat) &&
    decide (a.toNat < d.base.toNat + (i.val + 1) * d.sectorSize)

/-! ### Ring configuration -/

/-- The sector size that a size code names (12_formats section 12.4). -/
def sectorSizeOf (code : Byte) : Option Nat :=
  if code.toNat ≤ 6 then some (256 * 2 ^ code.toNat) else none

/-- The sector size in bytes; 0 where the code names none. -/
def RingConfig.sectorSize (c : RingConfig) : Nat := (sectorSizeOf c.sizeCode).getD 0

/-- Close mode HEADER: bits 1:0 of the modes byte are 0. -/
def RingConfig.isHeader (c : RingConfig) : Bool := decide (c.modes &&& 3 = 0)

/-- Close mode MARKER: bits 1:0 of the modes byte are 1. -/
def RingConfig.isMarker (c : RingConfig) : Bool := decide (c.modes &&& 3 = 1)

/-- Full policy DISCARD: bits 3:2 of the modes byte are 1. -/
def RingConfig.discards (c : RingConfig) : Bool := decide (c.modes &&& 12 = 4)

/-- Full policy BACKPRESSURE: bits 3:2 of the modes byte are 0. -/
def RingConfig.backpressures (c : RingConfig) : Bool := decide (c.modes &&& 12 = 0)

/-- The notices setting: bit 4 of the modes byte. -/
def RingConfig.noticesOn (c : RingConfig) : Bool := c.modes.getLsbD 4

/-- The payload capacity of a sector (R2). -/
def RingConfig.capacity (c : RingConfig) : Nat :=
  if c.isHeader then c.sectorSize - 8 else c.sectorSize

/-- The window of a configuration in bytes (R2). -/
def RingConfig.windowBytes (c : RingConfig) : Nat := c.sectorSize * c.sectorCount.toNat

/-- The decode entry that ENABLE loads from a configuration (R3). -/
def RingConfig.decodeEntry (c : RingConfig) : DecodeEntry where
  base := c.base
  sectorSize := c.sectorSize
  sectorCount := c.sectorCount.toNat
  producer := c.producer
  consumer := c.consumer
  monitors := c.monitors

/-- The configuration checks of ENABLE that give BAD_CONFIG when they fail (R146). -/
def RingConfig.valid (c : RingConfig) : Bool :=
  (sectorSizeOf c.sizeCode).isSome &&
    decide (2 ≤ c.sectorCount.toNat) && decide (c.sectorCount.toNat ≤ 32) &&
    decide (c.base.toNat % c.sectorSize = 0) &&
    decide (c.base.toNat + c.windowBytes ≤ 2 ^ 32) &&
    decide (c.consumer ≠ c.producer) &&
    !c.monitors.getLsbD c.producer.toNat && !c.monitors.getLsbD c.consumer.toNat &&
    (c.isHeader || c.isMarker) && (c.backpressures || c.discards)

/-! ### Close triggers -/

/-- What a close trigger says of the message it ends: its length, the end offset of the write or of
its marker word, the words as they join the queue, and whether words after the marker were dropped. -/
structure CloseTrigger where
  length : Nat
  endOffset : Nat
  words : List WriteWord
  trailing : Bool
  deriving DecidableEq, Repr

/-- The length field of a message header: bits 15:0 (R183). -/
def headerLength (w : Word) : Nat := (w.setWidth 16).toNat

/-- The complete flag of a message header: bit 16 (R183). -/
def headerComplete (w : Word) : Bool := w.getLsbD 16

/-- The byte offset in the sector just past the last of `count` words at a word offset (R5). -/
def endOffset (wordOffset count : Nat) : Nat := 8 * (wordOffset + count)

/-- HEADER mode: the write covers the control word with a partial mask on word 0 (R38). -/
def headerPartial (c : RingConfig) (wordOffset : Nat) (q : WriteRequest) : Bool :=
  c.isHeader && decide (wordOffset = 0) && decide (q.first.mask ≠ fullMask)

/-- HEADER mode: a complete full-mask header on the control word (R37). -/
def headerTrigger (c : RingConfig) (wordOffset : Nat) (q : WriteRequest) : Bool :=
  c.isHeader && decide (wordOffset = 0) && decide (q.first.mask = fullMask) &&
    headerComplete q.first.data

/-- HEADER mode: a close trigger whose length exceeds the payload capacity (R39). -/
def headerTooLong (c : RingConfig) (wordOffset : Nat) (q : WriteRequest) : Bool :=
  headerTrigger c wordOffset q && decide (c.capacity < headerLength q.first.data)

/-- The place of the lowest full-mask word equal to the marker value (R41). -/
def markerIndex (marker : Word) (ws : List WriteWord) : Option Nat :=
  ws.findIdx? fun w => decide (w.mask = fullMask) && decide (w.data = marker)

/-- Words as they join the queue after a marker: no byte enabled (R42). -/
def clearMask (w : WriteWord) : WriteWord := { w with mask := 0 }

/-- The close trigger of a producer write to sector F, by the close mode (R37, R41, R42, R43). -/
def closeTrigger (c : RingConfig) (wordOffset : Nat) (q : WriteRequest) : Option CloseTrigger :=
  let ws := wordsOf q
  if c.isHeader then
    if headerTrigger c wordOffset q then
      some { length := headerLength q.first.data, endOffset := endOffset wordOffset ws.length,
             words := ws, trailing := false }
    else none
  else if c.isMarker then
    match markerIndex c.marker ws with
    | some k =>
      some { length := 8 * (wordOffset + k), endOffset := endOffset wordOffset (k + 1),
             words := ws.take (k + 1) ++ (ws.drop (k + 1)).map clearMask,
             trailing := decide (k + 1 < ws.length) }
    | none => none
  else none

/-- A release: exactly one word, at word offset 0, with a full mask (R62). -/
def isRelease (wordOffset : Nat) (q : WriteRequest) : Bool :=
  decide (wordOffset = 0) && q.rest.isEmpty && decide (q.first.mask = fullMask)

/-! ### Notice queue -/

/-- The slot count that a slot count code names (12_formats section 12.4). -/
def slotCountOf (code : Byte) : Option Nat :=
  if code.toNat ≤ 6 then some (16 * 2 ^ code.toNat) else none

/-- The slot count; 0 where the code names none (R147). -/
def NoticeUnit.slots (n : NoticeUnit) : Nat := (slotCountOf n.slotCode).getD 0

/-- The notice window in bytes (R129). -/
def NoticeUnit.windowBytes (n : NoticeUnit) : Nat := 16 * n.slots

/-- The queue has a free slot: the slot count minus the difference of W and R is above 0 (R115). -/
def NoticeUnit.hasFreeSlot (n : NoticeUnit) : Bool := decide ((n.w - n.r).toNat < n.slots)

/-- Two ranges of bytes share a byte; an empty range shares none. -/
def rangesMeet (a la b lb : Nat) : Bool :=
  decide (0 < la) && decide (0 < lb) && decide (a < b + lb) && decide (b < a + la)

/-- A range shares a byte with the notice window or the return index word (R7, R147). -/
def NoticeUnit.meets (n : NoticeUnit) (a la : Nat) : Bool :=
  rangesMeet a la n.base.toNat n.windowBytes || rangesMeet a la n.returnAddress.toNat 8

/-- The configuration checks of NOTICE_ENABLE that give BAD_CONFIG when they fail (R130). -/
def NoticeUnit.valid (n : NoticeUnit) : Bool :=
  (slotCountOf n.slotCode).isSome && decide (n.base.toNat % n.windowBytes = 0) &&
    decide (n.returnAddress.toNat % 8 = 0) &&
    !rangesMeet n.returnAddress.toNat 8 n.base.toNat n.windowBytes

/-- The data a write carries for the return index word, where it covers it with a full mask (R81). -/
def returnedWord (q : WriteRequest) (word : Addr) : Option Word :=
  (wordsOf q)[(word.toNat - q.address.toNat) / 8]?.bind fun w =>
    if w.mask = fullMask then some w.data else none

end Sys2Proof.Machine
end

