-- ==== Sys2Proof/Machine/Ops.lean ====
section
/-! DEFINITION. The operations that several commands share: sector records and their transitions, the
ring's closes and its ways to OFF, the generation of notices, the Posted Write Queue's acceptance,
departure and retirement, and the Delayed Read Table's waiting, freeing and requeueing. -/

namespace Sys2Proof.Machine

/-! ### Sector Table -/

/-- The record of sector i of ring r: record r × 32 + i of the Sector Table (R9). -/
def State.record (s : State) (r : RingNo) (i : SectorNo) : SectorRecord := s.sectors[r][i]

/-- Replace one sector record. -/
def State.setRecord (s : State) (r : RingNo) (i : SectorNo) (x : SectorRecord) : State :=
  { s with sectors := s.sectors.set r (s.sectors[r].set i x) }

/-- Every sector of a ring is FREE; the records past the sector count are FREE by R10. -/
def State.allFree (s : State) (r : RingNo) : Bool :=
  s.sectors[r].all fun x => decide (x.state = .free)

/-! ### Notices -/

/-- A notice joins the tail of the pending notice FIFO, or is dropped at a full one (R135). -/
def State.pushNotice (s : State) (n : Notice) : State :=
  if s.notices.fifo.length < 16 then
    { s with notices := { s.notices with fifo := s.notices.fifo ++ [{ notice := n }] } }
  else
    (s.setRing n.ring { s.ring n.ring with noticeGap := true }).countNoticeOverrun.post .noticeOverrun

/-- Generation of a notice of a ring while the queue is enabled: it takes the ring's lost count and
notice-gap flag, which are then zeroed and cleared (R47, R132). -/
def State.generate (s : State) (n : Notice) : State :=
  if s.notices.enabled then
    (s.setRing n.ring { s.ring n.ring with lostCount := 0, noticeGap := false }).pushNotice
      { n with lost := (s.ring n.ring).lostCount, gap := (s.ring n.ring).noticeGap }
  else s

/-- The MESSAGE notice of a sector; its lost count and gap flag are filled in at generation (R133). -/
def State.messageNotice (s : State) (r : RingNo) (i : SectorNo) : Notice where
  type := .message
  ring := r
  sector := i
  seq := (s.record r i).seq
  length := (s.record r i).length
  flags := (s.record r i).flags
  gap := false
  lost := 0
  highWater := (s.record r i).highWater
  closeTime := (s.record r i).closeTime

/-- The RING_OFF or PURGED notice of a ring; its lost count and gap flag are filled in at generation
(R134). -/
def State.offNotice (s : State) (r : RingNo) (t : NoticeType) : Notice where
  type := t
  ring := r
  sector := (s.ring r).fillPointer
  seq := (s.ring r).nextSeq
  length := 0
  flags := {}
  gap := false
  lost := 0
  highWater := 0
  closeTime := s.timestamp

/-! ### Ring Controller -/

/-- A ring becomes OFF: its decode entry becomes absent and its notice is generated (R151, R153). -/
def State.turnOff (s : State) (r : RingNo) (t : NoticeType) : State :=
  let off := s.setRing r { s.ring r with lifecycle := .off }
  ({ off with decode := s.decode.set r none } : State).generate (s.offNotice r t)

/-- The test of a STOPPING ring for becoming OFF (R151). -/
def State.stopTest (s : State) (r : RingNo) : State :=
  if (s.ring r).lifecycle = .stopping ∧ (s.ring r).fillState = .idle ∧ s.allFree r then
    s.turnOff r .ringOff
  else s

/-- A PURGING ring becomes OFF when its last PURGING sector becomes FREE (R153). -/
def State.purgeTest (s : State) (r : RingNo) : State :=
  if (s.ring r).lifecycle = .purging ∧ s.allFree r then s.turnOff r .purged else s

/-- The messages-delivered counter of a ring rises (R171). -/
def RingState.countDelivered (x : RingState) : RingState :=
  { x with counters := { x.counters with delivered := satSucc x.counters.delivered } }

/-- The fill pointer advances at a close, the fill state becomes IDLE and the fill timer stops (R29). -/
def RingState.advance (x : RingState) (count : Nat) : RingState :=
  { x with
    fillPointer := Fin.ofNat 32 ((x.fillPointer.val + 1) % count)
    fillState := .idle
    fillTimer := none }

/-- The fill timer starts, or starts again, with the full fill timeout T in units of 16 ticks; while T
is 0 it is not started (R48). -/
def RingState.restartTimer (x : RingState) (timeout : BitVec 16) : RingState :=
  if timeout = 0 then x else { x with fillTimer := some (16 * timeout.toNat) }

/-- A close of the producer's current message of a ring (R29). -/
def State.advanceRing (s : State) (r : RingNo) : State :=
  s.setRing r ((s.ring r).advance (s.cfg r).sectorCount.toNat)

/-- A producer write that is no close trigger starts the ring's fill timer again (R48). -/
def State.restartRingTimer (s : State) (r : RingNo) : State :=
  s.setRing r ((s.ring r).restartTimer (s.cfg r).fillTimeout)

/-! ### Sector transitions at pending 0 -/

/-- A sector becomes READY: the message is counted, and its notice is generated while the ring's
notices are on (R17, R132). -/
def State.becomeReady (s : State) (r : RingNo) (i : SectorNo) : State :=
  let ready := (s.setRecord r i { s.record r i with state := .ready }).setRing r
    (s.ring r).countDelivered
  if (s.cfg r).noticesOn then ready.generate (s.messageNotice r i) else ready

/-- A sector becomes FREE; its other fields are kept (R9). -/
def State.becomeFree (s : State) (r : RingNo) (i : SectorNo) : State :=
  s.setRecord r i { s.record r i with state := .free }

/-- The transition that a pending count of 0 brings in the sector's state (R17, R19, R21, R22). -/
def State.settle (s : State) (r : RingNo) (i : SectorNo) : State :=
  if (s.record r i).pending = 0 then
    match (s.record r i).state with
    | .closing => s.becomeReady r i
    | .releasing => (s.becomeFree r i).stopTest r
    | .purging => (s.becomeFree r i).purgeTest r
    | .free => s
    | .filling => s
    | .ready => s
  else s

/-- The length of a message closed without its trigger: high-water minus 8 in HEADER mode, 0 if
high-water is 8 or less, and high-water in MARKER mode (R15). -/
def RingConfig.derivedLength (c : RingConfig) (highWater : Nat) : Nat :=
  if c.isHeader then highWater - 8 else highWater

/-- The sector at the fill pointer closes with a flag and a length derived from high-water, the fill
pointer advances, and a sector with pending 0 passes to READY at once (R15, R16). -/
def State.closeOpen (s : State) (r : RingNo) (mark : SectorFlags → SectorFlags) : State :=
  let i := (s.ring r).fillPointer
  let x := s.record r i
  ((s.setRecord r i { x with
      state := .closing
      flags := mark x.flags
      length := (s.cfg r).derivedLength x.highWater
      closeTime := s.timestamp }).advanceRing r).settle r i

/-- The producer's current message of a ring closes without its trigger: an OPEN message is closed with
the flag, a shadow ends, and the STOPPING ring's test follows (R49, R51). -/
def State.closeCurrent (s : State) (r : RingNo) (mark : SectorFlags → SectorFlags) : State :=
  match (s.ring r).fillState with
  | .opened => (s.closeOpen r mark).stopTest r
  | .shadow => (s.advanceRing r).stopTest r
  | .idle => s

/-! ### Delayed Read Table -/

/-- The places, counted from the head, of the queue entries on a line (R80, R96). -/
def lineHits (line : Addr) : List QueueEntry → List Nat
  | [] => []
  | e :: q => (if e.line = line then [0] else []) ++ (lineHits line q).map (· + 1)

/-- An entry counts the queue afresh and waits to be fetched again (R100). -/
def ReadEntry.requeue (e : ReadEntry) (q : List QueueEntry) : ReadEntry :=
  { e with phase := .queued none, attempts := 0, counted := lineHits e.line q }

/-- A write has joined the tail of the queue `q`; an entry of its line takes it into its counted set,
becomes stale, or is counted afresh, by its state (R99). -/
def ReadEntry.overlap (e : ReadEntry) (line : Addr) (q : List QueueEntry) : ReadEntry :=
  if e.line = line then
    match e.phase with
    | .queued _ => { e with counted := e.counted ++ [q.length - 1] }
    | .issued _ => { e with phase := .issued true }
    | .complete _ _ => e.requeue q
  else e

/-- The head has left the queue: it leaves the counted set, and the other places move up (R98). -/
def ReadEntry.headLeft (e : ReadEntry) : ReadEntry :=
  { e with counted := (e.counted.filter (· ≠ 0)).map (· - 1) }

/-- The entry's fetch is in flight. -/
def ReadEntry.inFlight (e : ReadEntry) : Bool :=
  match e.phase with
  | .issued _ => true
  | .queued _ => false
  | .complete _ _ => false

/-- The entry may be issued: QUEUED, blocking count 0, not waiting out a backoff (R98). -/
def ReadEntry.eligible (e : ReadEntry) : Bool :=
  decide (e.phase = .queued none) && e.counted.isEmpty

/-- A read slot whose owner is an ISSUED entry that is freed becomes ORPHANED (R125). -/
def ReadSlot.orphanIf (x : ReadSlot) (freed : ReadRequest → Bool) : ReadSlot :=
  match x with
  | .occupied k => if freed k then .orphaned else .occupied k
  | .free => .free
  | .orphaned => .orphaned

/-- Free the entries that a condition names, each by its state (R64, R108, R109). -/
def State.freeReads (s : State) (p : ReadEntry → Bool) : State :=
  let freed := fun k => s.reads.any fun e => p e && e.inFlight && decide (e.request = k)
  { s with
    reads := s.reads.filter fun e => !p e
    link := { s.link with
      readA := s.link.readA.orphanIf freed
      readB := s.link.readB.orphanIf freed } }

/-- The entry of a read (R97). -/
def State.findRead (s : State) (k : ReadRequest) : Option ReadEntry :=
  s.reads.find? fun e => decide (e.request = k)

/-- Change the entry of a read. -/
def State.updateRead (s : State) (k : ReadRequest) (f : ReadEntry → ReadEntry) : State :=
  { s with reads := s.reads.map fun e => if e.request = k then f e else e }

/-- Remove the entry of a read. -/
def State.removeRead (s : State) (k : ReadRequest) : State :=
  { s with reads := s.reads.filter fun e => decide (e.request ≠ k) }

/-! ### Posted Write Queue -/

/-- The queue has room for an entry (R77). -/
def State.hasRoom (s : State) : Bool := decide (s.pwq.length < 32)

/-- The issue state of the head after an entry has joined: an entry that joins an empty queue is the
head, in WAITING (R77). -/
def State.headIssueAfterJoin (s : State) : IssueState :=
  match s.pwq with
  | [] => .waiting
  | _ :: _ => s.headIssue

/-- A write joins the tail, and the Delayed Read Table is told of its line (R77, R80). -/
def State.enqueue (s : State) (e : QueueEntry) : State :=
  { s with
    pwq := s.pwq ++ [e]
    headIssue := s.headIssueAfterJoin
    reads := s.reads.map fun x => x.overlap e.line (s.pwq ++ [e]) }

/-- A tagged entry has left the queue: the sector's pending count falls, WRITE_ERROR is set if the
entry was a lost FILL or CLOSE write, and the sector settles (R22, R24, R86). -/
def State.leaveSector (s : State) (r : RingNo) (i : SectorNo) (lost : Bool) : State :=
  let x := s.record r i
  (s.setRecord r i { x with
    pending := x.pending - 1
    flags := { x.flags with writeError := x.flags.writeError || lost } }).settle r i

/-- A write is lost: WRITE_LOST and the writes-lost counter (R88, R89). -/
def State.reportLost (s : State) (lost : Bool) : State :=
  if lost then s.countWriteLost.post .writeLost else s

/-- The head is removed, and the entry behind it becomes the head in WAITING (R86). -/
def State.dropHead (s : State) : State :=
  { s with
    pwq := s.pwq.tail
    headIssue := .waiting
    reads := s.reads.map ReadEntry.headLeft }

/-- The head leaves the queue, lost or not, with the effects of its kind (R86 to R90). -/
def State.popHead (s : State) (lost : Bool) : State :=
  match s.pwq with
  | [] => s
  | e :: _ =>
    let t := s.dropHead.reportLost lost
    match e.kind with
    | .pass => t
    | .fill r i => t.leaveSector r i lost
    | .close r i => t.leaveSector r i lost
    | .release r i => t.leaveSector r i false

/-- The head is a FILL or CLOSE entry of a PURGING sector (R90). -/
def State.headIsPurged (s : State) : Bool :=
  match s.pwq with
  | [] => false
  | e :: _ =>
    match e.kind with
    | .fill r i => decide ((s.record r i).state = .purging)
    | .close r i => decide ((s.record r i).state = .purging)
    | .pass => false
    | .release _ _ => false

/-- Retire heads without issue for as long as the head is to be retired, at most `n` of them (R90). -/
def State.retireUpTo : Nat → State → State
  | 0, s => s
  | n + 1, s =>
    if s.headIsPurged && decide (s.headIssue ≠ .inFlight) then State.retireUpTo n (s.popHead false)
    else s

/-- Retire every head that is to be retired (R23, R90). -/
def State.retire (s : State) : State := State.retireUpTo s.pwq.length s

/-- A departure of the head, followed by the retirements it brings (R86, R90). -/
def State.depart (s : State) (lost : Bool) : State := (s.popHead lost).retire

end Sys2Proof.Machine
end

