-- ==== Sys2Proof/Machine/HostLink.lean ====
section
/-! DEFINITION. Requests on the host link: the meanings of WRITE_ARRIVAL and READ_ARRIVAL (R157 to R163,
chapters 1 to 5). -/

namespace Sys2Proof.Machine

/-! ### Producer writes -/

/-- The write joins the queue as a FILL or CLOSE entry of sector F, whose record is FILLING (R36, R40,
R43, and R35 for an opening write). -/
def State.storeWrite (s : State) (r : RingNo) (wordOffset : Nat) (q : WriteRequest) : State :=
  let i := (s.ring r).fillPointer
  let x := s.record r i
  match closeTrigger (s.cfg r) wordOffset q with
  | none =>
    (((s.setRecord r i { x with
        pending := x.pending + 1
        highWater := max x.highWater (endOffset wordOffset (wordsOf q).length) }).restartRingTimer r).enqueue
      { address := q.address, words := wordsOf q, kind := .fill r i }).answerAccept
  | some t =>
    ((((s.setRecord r i { x with
        state := .closing
        pending := x.pending + 1
        highWater := max x.highWater t.endOffset
        length := t.length
        flags := { x.flags with trailingDrop := x.flags.trailingDrop || t.trailing }
        closeTime := s.timestamp }).advanceRing r).enqueue
      { address := q.address, words := t.words, kind := .close r i }).stopTest r).answerAccept

/-- Sector F becomes FILLING with the next sequence number, and the fill state OPEN (R12, R35). -/
def State.openSector (s : State) (r : RingNo) : State :=
  let i := (s.ring r).fillPointer
  (s.setRecord r i { s.record r i with
    state := .filling
    seq := (s.ring r).nextSeq
    flags := {}
    length := 0
    closeTime := 0
    highWater := 0 }).setRing r
    { s.ring r with nextSeq := (s.ring r).nextSeq + 1, fillState := .opened }

/-- A write is accepted and dropped in a shadow; a close trigger ends the shadow (R46). -/
def State.shadowWrite (s : State) (r : RingNo) (wordOffset : Nat) (q : WriteRequest) : State :=
  match closeTrigger (s.cfg r) wordOffset q with
  | none => (s.restartRingTimer r).answerAccept
  | some _ => ((s.advanceRing r).stopTest r).answerAccept

/-- A shadow begins: it takes the next sequence number and is counted as lost (R45). -/
def State.beginShadow (s : State) (r : RingNo) : State :=
  let x := s.ring r
  s.setRing r { x with
    fillState := .shadow
    nextSeq := x.nextSeq + 1
    lostCount := satSucc x.lostCount
    counters := { x.counters with lost := satSucc x.counters.lost } }

/-- A producer write is held off under BACKPRESSURE (R44). -/
def State.stallProducer (s : State) (r : RingNo) : State :=
  let x := s.ring r
  (s.setRing r { x with counters := { x.counters with stalls := satSucc x.counters.stalls } }).respond .retry

/-- A producer write that has passed the checks is taken by the fill state (R32 step 5). -/
def State.takeProducerWrite (s : State) (r : RingNo) (wordOffset : Nat) (q : WriteRequest) : State :=
  match (s.ring r).fillState with
  | .idle =>
    if (s.record r (s.ring r).fillPointer).state = .free then
      if s.hasRoom then (s.openSector r).storeWrite r wordOffset q else s.answerQueueFull
    else if (s.cfg r).discards then (s.beginShadow r).shadowWrite r wordOffset q
    else s.stallProducer r
  | .opened => if s.hasRoom then s.storeWrite r wordOffset q else s.answerQueueFull
  | .shadow => s.shadowWrite r wordOffset q

/-- The judgement of a producer write (R32). -/
def State.producerWrite (s : State) (r : RingNo) (i : SectorNo) (wordOffset : Nat) (q : WriteRequest) :
    State :=
  if i ≠ (s.ring r).fillPointer then s.answerRingFault r .producer .order
  else if (s.ring r).lifecycle = .stopping ∧ (s.ring r).fillState = .idle then
    s.answerRingFault r .producer .ringOff
  else if headerPartial (s.cfg r) wordOffset q then s.answerRingFault r .producer .headerPartial
  else if headerTooLong (s.cfg r) wordOffset q then s.answerRingFault r .producer .length
  else s.takeProducerWrite r wordOffset q

/-! ### Releases and other writes -/

/-- An entry of the Delayed Read Table lies in sector i of ring r (R64). -/
def State.readInSector (s : State) (r : RingNo) (i : SectorNo) (e : ReadEntry) : Bool :=
  match s.window r with
  | some d => d.inSector i e.request.address
  | none => false

/-- A release, by the sector's state (R18, R63, R64, R66). -/
def State.release (s : State) (r : RingNo) (i : SectorNo) (q : WriteRequest) : State :=
  if (s.record r i).state = .ready then
    if s.hasRoom then
      let x := s.record r i
      (((s.setRecord r i { x with state := .releasing, pending := x.pending + 1 }).freeReads
        (s.readInSector r i)).enqueue
        { address := q.address, words := wordsOf q, kind := .release r i }).answerAccept
    else s.answerQueueFull
  else s.answerRingFault r .consumer .releaseState

/-- A returned count is checked against R and Wd, and moves R or sets NOTICE_INDEX_BAD (R81, R140). -/
def State.snoop (s : State) (v : Word) : State :=
  let r' : BitVec 16 := v.setWidth 16
  if (r' - s.notices.r).toNat ≤ (s.notices.wd - s.notices.r).toNat then
    { s with notices := { s.notices with r := r' } }
  else s.post .noticeIndexBad

/-- A PASS write joins the queue, or is answered RETRY when it is full (R77). -/
def State.passWrite (s : State) (q : WriteRequest) : State :=
  if s.hasRoom then
    (s.enqueue { address := q.address, words := wordsOf q, kind := .pass }).answerAccept
  else s.answerQueueFull

/-- A NOTICE-RETURN write is carried as a PASS write and snooped at its acceptance (R81, R82). -/
def State.returnWrite (s : State) (q : WriteRequest) : State :=
  if s.hasRoom then
    match returnedWord q s.notices.returnAddress with
    | some v => (s.passWrite q).snoop v
    | none => s.passWrite q
  else s.answerQueueFull

/-- The judgement of a RING write, by ring state, role and shape (R25). -/
def State.ringWrite (s : State) (r : RingNo) (i : SectorNo) (wordOffset : Nat) (role : Role)
    (q : WriteRequest) : State :=
  if (s.ring r).lifecycle = .purging then s.answerRingFault r role .ringOff
  else
    match role with
    | .other => s.answerRingFault r .other .role
    | .monitor => s.answerRingFault r .monitor .role
    | .consumer =>
      if isRelease wordOffset q then s.release r i q else s.answerRingFault r .consumer .role
    | .producer => s.producerWrite r i wordOffset q

/-- A WRITE is checked, classified, judged and answered at its arrival (R158, R160). -/
def State.takeWrite (s : State) (q : WriteRequest) : State :=
  if aligned q.address (wordsOf q).length then
    match s.classify q.address (wordsOf q).length q.initiator with
    | .pass => s.passWrite q
    | .noticeReturn => s.returnWrite q
    | .ring r i wordOffset role => s.ringWrite r i wordOffset role q
  else s.answerAlign

/-- While LRSTn is asserted no request arrives and no response is given (R165). -/
def execWriteArrival (q : WriteRequest) (s : State) : Host.Outcome State Fault Refusal :=
  if s.lrstn then .next { s with hostResponse := none } else .next (s.takeWrite q)

/-! ### Reads -/

/-- How a FAULT at the collection of a read is counted: in the ring and role of a RING repeat, or in
the device counters alone (R106). -/
def State.answerReadFault (s : State) (inRing : Option (RingNo × Role)) (f : FaultReason) : State :=
  match inRing with
  | some (r, role) => s.answerRingFault r role f
  | none => s.answerFault f

/-- The repeat of a read with a COMPLETE entry is answered with the result (R60, R106). -/
def State.collect (s : State) (k : ReadRequest) (inRing : Option (RingNo × Role)) (x : ReadResult) : State :=
  match x with
  | .data ws => (s.removeRead k).countAnswered.respond (.data ws)
  | .memError => (s.removeRead k).answerReadFault inRing .memError
  | .budget => (s.removeRead k).answerReadFault inRing .budget

/-- The table and the initiator have a place for an entry (R93, R95). -/
def State.readPlace (s : State) (k : ReadRequest) : Bool :=
  decide (s.reads.length < 8) &&
    decide (s.reads.countP (fun e => decide (e.request.initiator = k.initiator)) < 2)

/-- A read with no entry is taken as a QUEUED entry if there is a place, and answered RETRY (R95, R96). -/
def State.createRead (s : State) (k : ReadRequest) (tag : Option (RingNo × SectorNo)) : State :=
  if s.readPlace k then
    ({ s with reads := s.reads ++
        [{ request := k, tag := tag, phase := .queued none, counted := lineHits (lineOf k.address) s.pwq }] } :
      State).respond .retry
  else s.respond .retry

/-- The answer of a matching entry (R95 step 1), or what follows where none matches. -/
def State.matchRead (s : State) (k : ReadRequest) (inRing : Option (RingNo × Role)) (unmatched : State) :
    State :=
  match s.findRead k with
  | some e =>
    match e.phase with
    | .queued _ => s.respond .retry
    | .issued _ => s.respond .retry
    | .complete x _ => s.collect k inRing x
  | none => unmatched

/-- The gate of consumer and monitor reads (R55 to R58). -/
def State.gate (s : State) (r : RingNo) (i : SectorNo) (role : Role) (k : ReadRequest) : State :=
  match (s.record r i).state with
  | .ready => s.createRead k (some (r, i))
  | .closing => s.respond .retry
  | .free => s.answerRingFault r role .notReady
  | .filling => s.answerRingFault r role .notReady
  | .releasing => s.answerRingFault r role .notReady
  | .purging => s.answerRingFault r role .ringOff

/-- The judgement of a RING read (R25, R55). -/
def State.ringRead (s : State) (r : RingNo) (i : SectorNo) (role : Role) (k : ReadRequest) : State :=
  if (s.ring r).lifecycle = .purging then s.answerRingFault r role .ringOff
  else
    match role with
    | .other => s.answerRingFault r .other .role
    | .producer => s.matchRead k (some (r, .producer)) (s.createRead k none)
    | .consumer => s.matchRead k (some (r, .consumer)) (s.gate r i .consumer k)
    | .monitor => s.matchRead k (some (r, .monitor)) (s.gate r i .monitor k)

/-- A READ is checked, classified, gated or matched, and answered at its arrival (R158, R160). -/
def State.takeRead (s : State) (k : ReadRequest) : State :=
  if aligned k.address (countOf k) then
    match s.classify k.address (countOf k) k.initiator with
    | .pass => s.matchRead k none (s.createRead k none)
    | .noticeReturn => s.matchRead k none (s.createRead k none)
    | .ring r i _ role => s.ringRead r i role k
  else s.answerAlign

/-- While LRSTn is asserted no request arrives and no response is given (R165). -/
def execReadArrival (k : ReadRequest) (s : State) : Host.Outcome State Fault Refusal :=
  if s.lrstn then .next { s with hostResponse := none } else .next (s.takeRead k)

end Sys2Proof.Machine
end

