-- ==== Sys2Proof/Machine/Commands.lean ====
section
/-! DEFINITION. The commands of the COMMAND register and their results (chapter 8, R130, R131, R109). Each
meaning takes the command as the write of its last byte does (R144). -/

namespace Sys2Proof.Machine

/-! ### Results -/

/-- The command result register is loaded, the ring number is kept for the next command, and the staging
register is emptied (R144, R177, R186). -/
def State.loadResult (s : State) (code : Byte) (ring : BitVec 4) (v : Verdict) : State :=
  { s with port := { s.port with
      result := { ring := ring, code := code, verdict := v }
      commandRing := ring
      staging := none } }

/-- A refused command changes the command result register and nothing else of the part (R145). -/
def State.refuse (s : State) (code : Byte) (ring : BitVec 4) (x : RefusalReason) : State :=
  s.loadResult code ring (.refused x)

/-- The ring that a ring command names; numbers 8 to 15 name none (R145). -/
def namedRing (ring : BitVec 4) : Option RingNo :=
  if h : ring.toNat < 8 then some ⟨ring.toNat, h⟩ else none

/-! ### ENABLE -/

/-- Two ranges of decode share a byte: a window and that of another ring that is not OFF (R147). -/
def State.windowMeetsRing (s : State) (a la : Nat) : Bool :=
  allRings.any fun r => match s.window r with
    | some d => rangesMeet a la d.base.toNat (d.sectorSize * d.sectorCount)
    | none => false

/-- The ring's window shares a byte with another ring's window, the notice window or the return index
word (R147). -/
def State.enableOverlaps (s : State) (r : RingNo) : Bool :=
  s.windowMeetsRing (s.cfg r).base.toNat (s.cfg r).windowBytes ||
    s.notices.meets (s.cfg r).base.toNat (s.cfg r).windowBytes

/-- The runtime record of a ring that becomes ACTIVE: the starting values, the counters kept (R28). -/
def RingState.start (x : RingState) : RingState := { lifecycle := .active, counters := x.counters }

/-- A read entry lies in the window of a configuration (R108). -/
def RingConfig.holdsRead (c : RingConfig) (e : ReadEntry) : Bool :=
  decide (c.base.toNat ≤ e.request.address.toNat) &&
    decide (e.request.address.toNat < c.base.toNat + c.windowBytes)

/-- A ring becomes ACTIVE (R148). -/
def State.activate (s : State) (r : RingNo) : State :=
  ({ s with
    decode := s.decode.set r (some (s.cfg r).decodeEntry)
    sectors := s.sectors.set r (Vector.replicate 32 {})
    rings := s.rings.set r (s.ring r).start } : State).freeReads (s.cfg r).holdsRead

/-- ENABLE, taken with a ring number (R145 to R148). -/
def State.commandEnable (s : State) (ring : BitVec 4) : State :=
  match namedRing ring with
  | none => s.refuse 0x01 ring .noRing
  | some r =>
    if (s.ring r).lifecycle ≠ .off then s.refuse 0x01 ring .state
    else if !(s.cfg r).valid then s.refuse 0x01 ring .badConfig
    else if s.enableOverlaps r then s.refuse 0x01 ring .overlap
    else (s.activate r).loadResult 0x01 ring .done

/-! ### STOP -/

/-- STOP, taken with a ring number (R145, R150). -/
def State.commandStop (s : State) (ring : BitVec 4) : State :=
  match namedRing ring with
  | none => s.refuse 0x02 ring .noRing
  | some r =>
    if (s.ring r).lifecycle ≠ .active then s.refuse 0x02 ring .state
    else ((s.setRing r { s.ring r with lifecycle := .stopping }).stopTest r).loadResult 0x02 ring .done

/-! ### PURGE -/

/-- The effect of a purge on one sector record: FREE stays FREE, one with pending 0 becomes FREE at once,
and any other becomes PURGING (R20, R21). -/
def SectorRecord.purge (x : SectorRecord) : SectorRecord :=
  if x.state = .free ∨ x.pending = 0 then { x with state := .free } else { x with state := .purging }

/-- An entry carries a tag of the ring (R108). -/
def ReadEntry.taggedWith (e : ReadEntry) (r : RingNo) : Bool :=
  match e.tag with
  | some (r', _) => decide (r' = r)
  | none => false

/-- A ring enters PURGING (R20, R54, R152). -/
def State.purgeRing (s : State) (r : RingNo) : State :=
  ({ s with
    rings := s.rings.set r { s.ring r with lifecycle := .purging, fillState := .idle, fillTimer := none }
    sectors := s.sectors.set r (s.sectors[r].map SectorRecord.purge) } : State).freeReads
    fun e => e.taggedWith r

/-- PURGE, taken with a ring number (R145, R152, R153). -/
def State.commandPurge (s : State) (ring : BitVec 4) : State :=
  match namedRing ring with
  | none => s.refuse 0x03 ring .noRing
  | some r =>
    if (s.ring r).lifecycle = .active ∨ (s.ring r).lifecycle = .stopping then
      (((s.purgeRing r).purgeTest r).retire).loadResult 0x03 ring .done
    else s.refuse 0x03 ring .state

/-! ### Commands of the whole part -/

/-- FLUSH_READS (R109). -/
def State.commandFlushReads (s : State) (ring : BitVec 4) : State :=
  (s.freeReads fun _ => true).loadResult 0x10 ring .done

/-- The counters of a ring set to 0 (R154). -/
def RingState.clearCounters (x : RingState) : RingState := { x with counters := {} }

/-- CLEAR_COUNTERS (R154). -/
def State.commandClearCounters (s : State) (ring : BitVec 4) : State :=
  (({ s with rings := s.rings.map RingState.clearCounters } : State).setCounters {}).loadResult 0x11 ring .done

/-- A FIFO head that was assigned a slot is treated as never issued (R118, R130). -/
def PendingNotice.unassign (n : PendingNotice) : PendingNotice := { n with slot := none }

/-- The notice queue becomes enabled (R130). -/
def NoticeUnit.enable (n : NoticeUnit) : NoticeUnit :=
  { n with enabled := true, w := 0, wd := 0, r := 0, fifo := n.fifo.map PendingNotice.unassign }

/-- The notice window or the return index word shares a byte with the window of a ring that is not OFF
(R7, R130). -/
def State.noticeOverlaps (s : State) : Bool :=
  s.windowMeetsRing s.notices.base.toNat s.notices.windowBytes ||
    s.windowMeetsRing s.notices.returnAddress.toNat 8

/-- NOTICE_ENABLE (R130, R145). -/
def State.commandNoticeEnable (s : State) (ring : BitVec 4) : State :=
  if s.notices.enabled ∨ s.link.writeSlot = .occupied .noticeHead then s.refuse 0x12 ring .state
  else if !s.notices.valid then s.refuse 0x12 ring .badConfig
  else if s.noticeOverlaps then s.refuse 0x12 ring .overlap
  else ({ s with notices := s.notices.enable } : State).loadResult 0x12 ring .done

/-- NOTICE_DISABLE (R131, R145). -/
def State.commandNoticeDisable (s : State) (ring : BitVec 4) : State :=
  if s.notices.enabled then
    ({ s with notices := { s.notices with enabled := false } } : State).loadResult 0x13 ring .done
  else s.refuse 0x13 ring .state

/-- An OCCUPIED write slot becomes ORPHANED at a datapath reset (R127). -/
def WriteSlot.orphan : WriteSlot → WriteSlot
  | .free => .free
  | .occupied _ => .orphaned
  | .orphaned => .orphaned

/-- An OCCUPIED read slot becomes ORPHANED at a datapath reset (R127). -/
def ReadSlot.orphan : ReadSlot → ReadSlot
  | .free => .free
  | .occupied _ => .orphaned
  | .orphaned => .orphaned

/-- The datapath returns to its starting condition, with configuration kept (R155). -/
def State.resetDatapath (s : State) : State :=
  { s with
    decode := Vector.replicate 8 none
    rings := Vector.replicate 8 {}
    sectors := Vector.replicate 8 (Vector.replicate 32 {})
    pwq := []
    headIssue := .waiting
    reads := []
    notices := { s.notices with fifo := [], w := 0, wd := 0, r := 0 }
    link := { s.link with
      writeSlot := s.link.writeSlot.orphan
      readA := s.link.readA.orphan
      readB := s.link.readB.orphan
      next := .pwq }
    events := { s.events with flags := 0, counters := {} } }

/-- DATAPATH_RESET (R155). -/
def State.commandDatapathReset (s : State) (ring : BitVec 4) : State :=
  s.resetDatapath.loadResult 0x1F ring .done

/-! ### The taking of a command -/

/-- A command is taken by its code (R144, R145; codes of 12_formats section 12.4). -/
def State.takeCommand (s : State) (code : Byte) (ring : BitVec 4) : State :=
  if code = 0x01 then s.commandEnable ring
  else if code = 0x02 then s.commandStop ring
  else if code = 0x03 then s.commandPurge ring
  else if code = 0x10 then s.commandFlushReads ring
  else if code = 0x11 then s.commandClearCounters ring
  else if code = 0x12 then s.commandNoticeEnable ring
  else if code = 0x13 then s.commandNoticeDisable ring
  else if code = 0x1F then s.commandDatapathReset ring
  else s.refuse code ring .noRing

/-- The offset advances by 1, wrapping at the end of the window (R176). -/
def advanceOffset (o : BitVec 16) : BitVec 16 := (o + 1) &&& 0x03FF

/-- A data byte at a given offset of the window has been taken: it is acknowledged, and an offset that
stood at it advances (R175, R176; log entry 5). -/
def State.pastByte (s : State) (at0 : BitVec 16) : State :=
  { s with port := { s.port with
      acked := true
      offset := if s.port.offset = at0 then advanceOffset at0 else s.port.offset } }

/-- The port takes no data byte while PORSTn is asserted or in an out-of-window transaction: the byte is
not acknowledged and nothing is written (R175, R176). -/
def State.portDeaf (s : State) : Bool := s.porstn || s.port.outOfWindow

/-- A byte that is not taken is not acknowledged (R175, R176). -/
def State.nack (s : State) : State := { s with port := { s.port with acked := false } }

/-- The offset of COMMAND's last byte (12_formats section 12.4). -/
def commandLast : BitVec 16 := 0x0011

/-- ENABLE. -/
def execEnable (ring : BitVec 4) (s : State) : Host.Outcome State Fault Refusal :=
  if s.portDeaf then .next s.nack else .next ((s.commandEnable ring).pastByte commandLast)

/-- STOP. -/
def execStop (ring : BitVec 4) (s : State) : Host.Outcome State Fault Refusal :=
  if s.portDeaf then .next s.nack else .next ((s.commandStop ring).pastByte commandLast)

/-- PURGE. -/
def execPurge (ring : BitVec 4) (s : State) : Host.Outcome State Fault Refusal :=
  if s.portDeaf then .next s.nack else .next ((s.commandPurge ring).pastByte commandLast)

/-- FLUSH_READS. -/
def execFlushReads (ring : BitVec 4) (s : State) : Host.Outcome State Fault Refusal :=
  if s.portDeaf then .next s.nack else .next ((s.commandFlushReads ring).pastByte commandLast)

/-- CLEAR_COUNTERS. -/
def execClearCounters (ring : BitVec 4) (s : State) : Host.Outcome State Fault Refusal :=
  if s.portDeaf then .next s.nack else .next ((s.commandClearCounters ring).pastByte commandLast)

/-- NOTICE_ENABLE. -/
def execNoticeEnable (ring : BitVec 4) (s : State) : Host.Outcome State Fault Refusal :=
  if s.portDeaf then .next s.nack else .next ((s.commandNoticeEnable ring).pastByte commandLast)

/-- NOTICE_DISABLE. -/
def execNoticeDisable (ring : BitVec 4) (s : State) : Host.Outcome State Fault Refusal :=
  if s.portDeaf then .next s.nack else .next ((s.commandNoticeDisable ring).pastByte commandLast)

/-- DATAPATH_RESET. -/
def execDatapathReset (ring : BitVec 4) (s : State) : Host.Outcome State Fault Refusal :=
  if s.portDeaf then .next s.nack else .next ((s.commandDatapathReset ring).pastByte commandLast)

/-- UNKNOWN_COMMAND: a COMMAND write taken by its code, which for a code that is none of the eight is the
refusal NO_RING (R145). -/
def execUnknownCommand (code : Byte) (ring : BitVec 4) (s : State) : Host.Outcome State Fault Refusal :=
  if s.portDeaf then .next s.nack else .next ((s.takeCommand code ring).pastByte commandLast)

end Sys2Proof.Machine
end

