-- ==== Sys2Proof/Machine/MemoryLink.lean ====
section
/-! DEFINITION. The memory link: the meanings of GRANT, the three responses and BACKOFF_EXPIRY (chapters 6
and 7). -/

namespace Sys2Proof.Machine

/-! ### The notice record (12_formats section 12.2) -/

/-- The code of a notice type. -/
def NoticeType.code : NoticeType → Byte
  | .message => 1
  | .ringOff => 2
  | .purged => 3

/-- Bits 3:0 of the flags byte of a sector's notice or snapshot. -/
def SectorFlags.toByte (f : SectorFlags) : Byte :=
  (BitVec.ofBool f.trailingDrop ++ BitVec.ofBool f.writeError ++ BitVec.ofBool f.aborted ++
    BitVec.ofBool f.timedOut : BitVec 4).setWidth 8

/-- The flags byte of a notice: LOST and NOTICE_GAP above the sector's flags (R133, R134). -/
def Notice.flagsByte (n : Notice) : Byte :=
  (BitVec.ofBool (decide (n.lost ≠ 0)) ++ BitVec.ofBool n.gap ++ n.flags.toByte.setWidth 4 : BitVec 6).setWidth 8

/-- Bytes 0 to 7 of the record: valid and type, ring, sector, flags, seq, length (R184). -/
def Notice.word0 (n : Notice) : Word :=
  BitVec.ofNat 16 n.length ++ n.seq ++ n.flagsByte ++ BitVec.ofNat 8 n.sector.val ++
    BitVec.ofNat 8 n.ring.val ++ ((n.type.code <<< 1) ||| 1)

/-- Bytes 8 to 15 of the record: lost count, high-water, close time (R184). -/
def Notice.word1 (n : Notice) : Word :=
  n.closeTime ++ BitVec.ofNat 16 n.highWater ++ n.lost

/-- The two full-mask words that write a notice (R118, R184). -/
def Notice.words (n : Notice) : List WriteWord :=
  [{ data := n.word0, mask := fullMask }, { data := n.word1, mask := fullMask }]

/-! ### The fields of a request (12_formats section 12.3) -/

/-- The kind bit: 0 READ, 1 WRITE. -/
def LinkRequest.kindCode : LinkRequest → BitVec 1
  | .write _ _ => 1
  | .read _ _ _ => 0

/-- The slot tag: 0 WRITE, 1 READ_A, 2 READ_B (R112, R185). -/
def LinkRequest.slotTag : LinkRequest → BitVec 2
  | .write _ _ => 0
  | .read tag _ _ => tag

/-- The word count minus 1. -/
def LinkRequest.countField : LinkRequest → BitVec 3
  | .write _ ws => BitVec.ofNat 3 (ws.length - 1)
  | .read _ _ n => n

/-! ### The arbiter -/

/-- The head of the Posted Write Queue is offered (R83, R115). -/
def State.queueEligible (s : State) : Bool :=
  !s.pwq.isEmpty && decide (s.headIssue = .waiting) && decide (s.link.writeSlot = .free) && !s.headIsPurged

/-- The entry that the Delayed Read Table offers: the oldest eligible one (R102). -/
def State.offeredRead (s : State) : Option ReadEntry := s.reads.find? ReadEntry.eligible

/-- The Delayed Read Table is eligible (R115). -/
def State.readEligible (s : State) : Bool :=
  s.offeredRead.isSome && (decide (s.link.readA = .free) || decide (s.link.readB = .free))

/-- The head of the pending notice FIFO is offered (R115, R137). -/
def State.noticeEligible (s : State) : Bool :=
  match s.notices.fifo with
  | [] => false
  | n :: _ =>
    decide (n.backoff = none) && decide (s.link.writeSlot = .free) && s.notices.enabled &&
      (n.slot.isSome || s.notices.hasFreeSlot)

/-- A requester is eligible (R115). -/
def State.eligible (s : State) : Requester → Bool
  | .pwq => s.queueEligible
  | .drt => s.readEligible
  | .notice => s.noticeEligible

/-- The cyclic order PWQ, DRT, NOTICE (R116). -/
def Requester.after : Requester → Requester
  | .pwq => .drt
  | .drt => .notice
  | .notice => .pwq

/-- The winner of a grant: the first eligible requester in cyclic order from the next requester (R116). -/
def State.winner (s : State) : Option Requester :=
  [s.link.next, s.link.next.after, s.link.next.after.after].find? s.eligible

/-- The head of the Posted Write Queue is issued as a write (R83, R117). -/
def State.issueHead (s : State) : State :=
  match s.pwq with
  | [] => s
  | e :: _ =>
    { s with
      headIssue := .inFlight
      link := { s.link with
        writeSlot := .occupied .queueHead
        request := some (.write e.address e.words) } }

/-- A read entry is issued into read slot A if that is FREE, and into read slot B otherwise (R102, R114,
R117). -/
def State.issueRead (s : State) (e : ReadEntry) : State :=
  let issued := s.updateRead e.request fun x => { x with phase := .issued false }
  if s.link.readA = .free then
    { issued with link := { s.link with
        readA := .occupied e.request
        request := some (.read 1 e.request.address e.request.countCode) } }
  else
    { issued with link := { s.link with
        readB := .occupied e.request
        request := some (.read 2 e.request.address e.request.countCode) } }

/-- The address of a notice slot (R118, R129). -/
def NoticeUnit.slotAddress (n : NoticeUnit) (k : Nat) : Addr := n.base + BitVec.ofNat 32 (16 * k)

/-- The head of the pending notice FIFO is issued: at its first issue it is assigned slot W modulo the
slot count and W rises (R118, R137). -/
def State.issueNotice (s : State) : State :=
  match s.notices.fifo with
  | [] => s
  | n :: rest =>
    let k := n.slot.getD (s.notices.w.toNat % s.notices.slots)
    { s with
      notices := { s.notices with
        fifo := { n with slot := some k } :: rest
        w := if n.slot.isSome then s.notices.w else s.notices.w + 1 }
      link := { s.link with
        writeSlot := .occupied .noticeHead
        request := some (.write (s.notices.slotAddress k) n.notice.words) } }

/-- The winner's request is issued (R117). -/
def State.issue (s : State) : Requester → State
  | .pwq => s.issueHead
  | .drt =>
    match s.offeredRead with
    | some e => s.issueRead e
    | none => s
  | .notice => s.issueNotice

/-- The winner goes to the back of the rotation (R116). -/
def State.setNext (s : State) (q : Requester) : State := { s with link := { s.link with next := q } }

/-- The request channel is ready: the arbiter makes a grant if a requester is eligible (R116). -/
def State.grant (s : State) : State :=
  match s.winner with
  | some q => (s.issue q).setNext q.after
  | none => s

/-- GRANT. -/
def execGrant (s : State) : Host.Outcome State Fault Refusal := .next s.grant

/-! ### What a response finds -/

/-- What a slot tag names at a response: nothing, an ORPHANED slot, or a slot with its owner (R113, R126,
R185). -/
inductive SlotHolder where
  | discarded
  | orphaned
  | queueHead
  | noticeHead
  | read (request : ReadRequest)
  deriving DecidableEq, Repr

/-- What a read slot holds for a response. -/
def ReadSlot.holder : ReadSlot → SlotHolder
  | .free => .discarded
  | .orphaned => .orphaned
  | .occupied k => .read k

/-- What a slot tag names: 0 WRITE, 1 READ_A, 2 READ_B, and 3 no slot (R112, R185). -/
def State.holder (s : State) (tag : BitVec 2) : SlotHolder :=
  if tag = 0 then
    match s.link.writeSlot with
    | .free => .discarded
    | .orphaned => .orphaned
    | .occupied .queueHead => .queueHead
    | .occupied .noticeHead => .noticeHead
  else if tag = 1 then s.link.readA.holder
  else if tag = 2 then s.link.readB.holder
  else .discarded

/-- The slot a tag names becomes FREE at its response (R114). -/
def State.freeSlot (s : State) (tag : BitVec 2) : State :=
  { s with link := { s.link with
      writeSlot := if tag = 0 then .free else s.link.writeSlot
      readA := if tag = 1 then .free else s.link.readA
      readB := if tag = 2 then .free else s.link.readB } }

/-- The head of the pending notice FIFO leaves after its write has ended, and Wd rises (R138, R139). -/
def State.noticeLeaves (s : State) : State :=
  { s with notices := { s.notices with fifo := s.notices.fifo.tail, wd := s.notices.wd + 1 } }

/-- The fetch of an entry has ended: a stale one is counted afresh against the queue (R105), any other
becomes what its answer brings. An entry that is not ISSUED has no fetch to end. -/
def ReadEntry.finish (e : ReadEntry) (q : List QueueEntry) (answered : ReadEntry → ReadEntry) : ReadEntry :=
  match e.phase with
  | .issued true => e.requeue q
  | .issued false => answered e
  | .queued _ => e
  | .complete _ _ => e

/-- The fetch of the entry of a read has ended (R103 to R105). -/
def State.finishRead (s : State) (k : ReadRequest) (answered : ReadEntry → ReadEntry) : State :=
  s.updateRead k fun e => e.finish s.pwq answered

/-- An entry becomes COMPLETE, and its discard timer starts with the discard time in force (R103, R104,
R107). -/
def State.completed (s : State) (x : ReadResult) (e : ReadEntry) : ReadEntry :=
  { e with phase := .complete x s.discardTime.toNat }

/-! ### OKAY -/

/-- An OKAY response is dispatched, and the slot becomes FREE (R119, R126). -/
def State.okay (s : State) (tag : BitVec 2) (data : List Word) : State :=
  match s.holder tag with
  | .discarded => s
  | .orphaned => s.freeSlot tag
  | .queueHead => (s.freeSlot tag).depart false
  | .noticeHead => (s.freeSlot tag).noticeLeaves.countNoticeWritten
  | .read k => (s.freeSlot tag).finishRead k (s.completed (.data data))

/-- OKAY_RESPONSE. The data of a response to a write is not examined (R185). -/
def execOkayResponse (tag : BitVec 2) (data : List Word) (s : State) : Host.Outcome State Fault Refusal :=
  .next (s.okay tag data)

/-! ### ERROR -/

/-- An ERROR response is dispatched as a final failure, with MEM_ERROR where it reaches an owner (R120,
R126). -/
def State.error (s : State) (tag : BitVec 2) : State :=
  match s.holder tag with
  | .discarded => s
  | .orphaned => s.freeSlot tag
  | .queueHead => ((s.freeSlot tag).post .memError).depart true
  | .noticeHead => ((s.freeSlot tag).post .memError).noticeLeaves.post .noticeLost
  | .read k => ((s.freeSlot tag).post .memError).finishRead k (s.completed .memError)

/-- ERROR_RESPONSE; a response of kind 3 is taken as ERROR (R185). -/
def execErrorResponse (tag : BitVec 2) (_kind : ErrorKind) (s : State) : Host.Outcome State Fault Refusal :=
  .next (s.error tag)

/-! ### BUSY -/

/-- The raised attempt count reaches a non-zero attempt budget (R121). -/
def State.budgetReached (s : State) (attempts : BitVec 16) : Bool :=
  decide (s.link.budget ≠ 0) && decide (s.link.budget.toNat ≤ attempts.toNat)

/-- The backoff interval an owner enters; with a backoff of 0 there is none (R122). -/
def State.backoffInterval (s : State) : Option Nat :=
  if s.link.backoff = 0 then none else some s.link.backoff.toNat

/-- The head's attempt count and issue state after a BUSY answer that does not end it (R85, R122). -/
def State.headBackoff (s : State) : State :=
  { s with headIssue := match s.backoffInterval with
      | none => .waiting
      | some n => .backoff n }

/-- Raise the attempt count of the head. -/
def State.raiseHeadAttempts (s : State) : State :=
  match s.pwq with
  | [] => s
  | e :: q => { s with pwq := { e with attempts := satSucc e.attempts } :: q }

/-- The attempt count of the head; 0 where the queue is empty. -/
def State.headAttempts (s : State) : BitVec 16 :=
  match s.pwq with
  | [] => 0
  | e :: _ => e.attempts

/-- The head is answered BUSY: given up at the budget, retired if its sector is PURGING, or left in
backoff (R85, R89, R90, R121, R123). -/
def State.headBusy (s : State) : State :=
  let t := s.raiseHeadAttempts
  if t.budgetReached t.headAttempts then t.depart true
  else if t.headIsPurged then t.depart false
  else t.headBackoff

/-- The notice head is answered BUSY (R121, R123, R139). -/
def State.noticeBusy (s : State) : State :=
  match s.notices.fifo with
  | [] => s
  | n :: rest =>
    if s.budgetReached (satSucc n.attempts) then s.noticeLeaves.post .noticeLost
    else
      { s with notices := { s.notices with
          fifo := { n with attempts := satSucc n.attempts, backoff := s.backoffInterval } :: rest } }

/-- A read entry whose stale flag is clear is answered BUSY (R104, R121). -/
def State.busyEntry (s : State) (e : ReadEntry) : ReadEntry :=
  if s.budgetReached (satSucc e.attempts) then
    { e with attempts := satSucc e.attempts, phase := .complete .budget s.discardTime.toNat }
  else { e with attempts := satSucc e.attempts, phase := .queued s.backoffInterval }

/-- A BUSY response is dispatched, and counted where it reaches an owner (R121, R126). -/
def State.busy (s : State) (tag : BitVec 2) : State :=
  match s.holder tag with
  | .discarded => s
  | .orphaned => s.freeSlot tag
  | .queueHead => (s.freeSlot tag).countBusy.headBusy
  | .noticeHead => (s.freeSlot tag).countBusy.noticeBusy
  | .read k => (s.freeSlot tag).countBusy.finishRead k s.busyEntry

/-- BUSY_RESPONSE. -/
def execBusyResponse (tag : BitVec 2) (s : State) : Host.Outcome State Fault Refusal := .next (s.busy tag)

/-! ### Backoff -/

/-- A read entry whose backoff interval has been counted may be offered again (R104, R122). -/
def ReadEntry.endBackoff (e : ReadEntry) : ReadEntry :=
  if e.phase = .queued (some 0) then { e with phase := .queued none } else e

/-- The notice head may be offered again when its backoff interval has been counted (R122). -/
def State.endNoticeBackoff (s : State) : State :=
  match s.notices.fifo with
  | [] => s
  | n :: rest =>
    if n.backoff = some 0 then
      { s with notices := { s.notices with fifo := { n with backoff := none } :: rest } }
    else s

/-- The end of an owner's backoff interval; without effect where the interval has not been counted or
its owner is gone (R122). -/
def State.endBackoff (s : State) : BackoffOwner → State
  | .queueHead => if s.headIssue = .backoff 0 then { s with headIssue := .waiting } else s
  | .read k => s.updateRead k ReadEntry.endBackoff
  | .noticeHead => s.endNoticeBackoff

/-- BACKOFF_EXPIRY. -/
def execBackoffExpiry (owner : BackoffOwner) (s : State) : Host.Outcome State Fault Refusal :=
  .next (s.endBackoff owner)

end Sys2Proof.Machine
end

