-- ==== Sys2Proof/Machine/Window.lean ====
section
/-! DEFINITION. The register window (12_formats section 12.4): where each field lies, what it reads, which
fields are locked or writable, and what a completed write stores (R1, R107, R124, R129, R149, R177 to
R180, R186). -/

namespace Sys2Proof.Machine

/-! ### The map -/

/-- The fields of a ring's block. -/
def ringFields : List RingField :=
  ([.base, .sizeCode, .sectorCount, .producer, .consumer, .monitors, .modes, .fillTimeout, .marker] : List RingField) ++
  ([.lifecycle, .fillPointer, .fillState, .noticeGap, .nextSeq, .lostCount] : List RingField) ++
  ([.delivered, .lost, .fillTimeouts, .stalls, .producerFaults, .consumerFaults] : List RingField)

/-- The offset of a field in its ring's block. -/
def RingField.start : RingField → Nat
  | .base => 0x00
  | .sizeCode => 0x04
  | .sectorCount => 0x05
  | .producer => 0x06
  | .consumer => 0x07
  | .monitors => 0x08
  | .modes => 0x0A
  | .fillTimeout => 0x0C
  | .marker => 0x10
  | .lifecycle => 0x18
  | .fillPointer => 0x19
  | .fillState => 0x1A
  | .noticeGap => 0x1B
  | .nextSeq => 0x1C
  | .lostCount => 0x1E
  | .delivered => 0x20
  | .lost => 0x24
  | .fillTimeouts => 0x28
  | .stalls => 0x2C
  | .producerFaults => 0x30
  | .consumerFaults => 0x34

/-- The bytes of a field of a ring's block. -/
def RingField.size : RingField → Nat
  | .base => 4
  | .sizeCode => 1
  | .sectorCount => 1
  | .producer => 1
  | .consumer => 1
  | .monitors => 2
  | .modes => 1
  | .fillTimeout => 2
  | .marker => 8
  | .lifecycle => 1
  | .fillPointer => 1
  | .fillState => 1
  | .noticeGap => 1
  | .nextSeq => 2
  | .lostCount => 2
  | .delivered => 4
  | .lost => 4
  | .fillTimeouts => 4
  | .stalls => 4
  | .producerFaults => 4
  | .consumerFaults => 4

/-- The fields below the ring blocks. -/
def globalFields : List Field :=
  ([.status, .queueOccupancy, .readOccupancy, .noticeOccupancy, .timestamp, .discardTime, .attemptBudget] : List Field) ++
  ([.backoff, .command, .commandResult, .eventLow, .eventHigh, .maskLow, .maskHigh] : List Field) ++
  ([.noticeBase, .returnAddress, .slotCode, .noticeEnable, .indexW, .indexWd, .indexR] : List Field) ++
  ([.writesAccepted, .writesLost, .readsAnswered, .readsExpired, .busyResponses, .noticesWritten] : List Field) ++
  ([.noticesOverrun, .queueFull] : List Field) ++
  ([.fault 0, .fault 1, .fault 2, .fault 3, .fault 4, .fault 5, .fault 6, .fault 7, .fault 8, .fault 9] : List Field) ++
  ([.inspectSelect, .snapState, .snapPending, .snapFlags, .snapSeq, .snapHighWater, .snapLength] : List Field) ++
  ([.snapCloseTime] : List Field)

/-- The offset of a field's lowest byte. -/
def Field.start : Field → Nat
  | .status => 0x0000
  | .queueOccupancy => 0x0001
  | .readOccupancy => 0x0002
  | .noticeOccupancy => 0x0003
  | .timestamp => 0x0004
  | .discardTime => 0x0008
  | .attemptBudget => 0x000A
  | .backoff => 0x000C
  | .command => 0x0010
  | .commandResult => 0x0014
  | .eventLow => 0x0018
  | .eventHigh => 0x0019
  | .maskLow => 0x001A
  | .maskHigh => 0x001B
  | .noticeBase => 0x0020
  | .returnAddress => 0x0024
  | .slotCode => 0x0028
  | .noticeEnable => 0x0029
  | .indexW => 0x002A
  | .indexWd => 0x002C
  | .indexR => 0x002E
  | .writesAccepted => 0x0040
  | .writesLost => 0x0044
  | .readsAnswered => 0x0048
  | .readsExpired => 0x004C
  | .busyResponses => 0x0050
  | .noticesWritten => 0x0054
  | .noticesOverrun => 0x0058
  | .queueFull => 0x005C
  | .fault k => 0x0060 + 4 * k.val
  | .inspectSelect => 0x0090
  | .snapState => 0x0091
  | .snapPending => 0x0092
  | .snapFlags => 0x0093
  | .snapSeq => 0x0094
  | .snapHighWater => 0x0096
  | .snapLength => 0x0098
  | .snapCloseTime => 0x009C
  | .ring r f => 0x0200 + 64 * r.val + f.start

/-- The bytes of a field. -/
def Field.size : Field → Nat
  | .status => 1
  | .queueOccupancy => 1
  | .readOccupancy => 1
  | .noticeOccupancy => 1
  | .timestamp => 4
  | .discardTime => 2
  | .attemptBudget => 2
  | .backoff => 1
  | .command => 2
  | .commandResult => 4
  | .eventLow => 1
  | .eventHigh => 1
  | .maskLow => 1
  | .maskHigh => 1
  | .noticeBase => 4
  | .returnAddress => 4
  | .slotCode => 1
  | .noticeEnable => 1
  | .indexW => 2
  | .indexWd => 2
  | .indexR => 2
  | .writesAccepted => 4
  | .writesLost => 4
  | .readsAnswered => 4
  | .readsExpired => 4
  | .busyResponses => 4
  | .noticesWritten => 4
  | .noticesOverrun => 4
  | .queueFull => 4
  | .fault _ => 4
  | .inspectSelect => 1
  | .snapState => 1
  | .snapPending => 1
  | .snapFlags => 1
  | .snapSeq => 2
  | .snapHighWater => 2
  | .snapLength => 2
  | .snapCloseTime => 4
  | .ring _ f => f.size

/-- The field that holds the byte at an offset; `none` for a byte that belongs to no field (R176). -/
def fieldAt (o : Nat) : Option Field :=
  if o < 0x0200 then
    globalFields.find? fun f => decide (f.start ≤ o) && decide (o < f.start + f.size)
  else
    (ringFields.find? fun f => decide (f.start ≤ (o - 0x0200) % 64) &&
      decide ((o - 0x0200) % 64 < f.start + f.size)).map
      (Field.ring (Fin.ofNat 8 ((o - 0x0200) / 64)))

/-! ### Values read -/

/-- Byte k of a field's value, little-endian (00_scope.md, "Data units"). -/
def byteOf (v : BitVec 64) (k : Nat) : Byte := v.extractLsb' (8 * k) 8

/-- The codes of the ring states (12_formats section 12.4). -/
def Lifecycle.code : Lifecycle → Nat
  | .off => 0
  | .active => 1
  | .stopping => 2
  | .purging => 3

/-- The codes of the fill states. -/
def FillState.code : FillState → Nat
  | .idle => 0
  | .opened => 1
  | .shadow => 2

/-- The codes of the sector states. -/
def SectorState.code : SectorState → Nat
  | .free => 0
  | .filling => 1
  | .closing => 2
  | .ready => 3
  | .releasing => 4
  | .purging => 5

/-- The reason byte of a refusal. -/
def RefusalReason.code : RefusalReason → Byte
  | .badConfig => 1
  | .overlap => 2
  | .state => 3
  | .noRing => 4

/-- The result byte. -/
def Verdict.code : Verdict → Byte
  | .none => 0
  | .done => 1
  | .refused _ => 2

/-- The reason byte: 0 with NONE and DONE. -/
def Verdict.reason : Verdict → Byte
  | .none => 0
  | .done => 0
  | .refused x => x.code

/-- The command result register as its four bytes read: ring number, code, result, reason. -/
def CommandResult.value (x : CommandResult) : BitVec 64 :=
  (x.verdict.reason ++ x.verdict.code ++ x.code ++ x.ring.setWidth 8 : BitVec 32).setWidth 64

/-- The management status byte (R180, R186). -/
def State.statusByte (s : State) : Byte :=
  (BitVec.ofBool s.alrt ++ BitVec.ofBool s.ntfy ++ BitVec.ofBool s.lrstn ++
    BitVec.ofBool s.port.configLocked : BitVec 4).setWidth 8

/-- The live value of a field of a ring's block. -/
def State.ringFieldValue (s : State) (r : RingNo) : RingField → BitVec 64
  | .base => (s.cfg r).base.setWidth 64
  | .sizeCode => (s.cfg r).sizeCode.setWidth 64
  | .sectorCount => (s.cfg r).sectorCount.setWidth 64
  | .producer => (s.cfg r).producer.setWidth 64
  | .consumer => (s.cfg r).consumer.setWidth 64
  | .monitors => (s.cfg r).monitors.setWidth 64
  | .modes => (s.cfg r).modes.setWidth 64
  | .fillTimeout => (s.cfg r).fillTimeout.setWidth 64
  | .marker => (s.cfg r).marker
  | .lifecycle => BitVec.ofNat 64 (s.ring r).lifecycle.code
  | .fillPointer => BitVec.ofNat 64 (s.ring r).fillPointer.val
  | .fillState => BitVec.ofNat 64 (s.ring r).fillState.code
  | .noticeGap => (BitVec.ofBool (s.ring r).noticeGap).setWidth 64
  | .nextSeq => (s.ring r).nextSeq.setWidth 64
  | .lostCount => (s.ring r).lostCount.setWidth 64
  | .delivered => (s.ring r).counters.delivered.setWidth 64
  | .lost => (s.ring r).counters.lost.setWidth 64
  | .fillTimeouts => (s.ring r).counters.fillTimeouts.setWidth 64
  | .stalls => (s.ring r).counters.stalls.setWidth 64
  | .producerFaults => (s.ring r).counters.producerFaults.setWidth 64
  | .consumerFaults => (s.ring r).counters.consumerFaults.setWidth 64

/-- The live value of a field of the window; COMMAND reads 0 (R178). -/
def State.fieldValue (s : State) : Field → BitVec 64
  | .status => s.statusByte.setWidth 64
  | .queueOccupancy => BitVec.ofNat 64 s.pwq.length
  | .readOccupancy => BitVec.ofNat 64 s.reads.length
  | .noticeOccupancy => BitVec.ofNat 64 s.notices.fifo.length
  | .timestamp => s.timestamp.setWidth 64
  | .discardTime => s.discardTime.setWidth 64
  | .attemptBudget => s.link.budget.setWidth 64
  | .backoff => s.link.backoff.setWidth 64
  | .command => 0
  | .commandResult => s.port.result.value
  | .eventLow => (s.events.flags.setWidth 8).setWidth 64
  | .eventHigh => (s.events.flags >>> 8).setWidth 64
  | .maskLow => (s.events.masks.setWidth 8).setWidth 64
  | .maskHigh => (s.events.masks >>> 8).setWidth 64
  | .noticeBase => s.notices.base.setWidth 64
  | .returnAddress => s.notices.returnAddress.setWidth 64
  | .slotCode => s.notices.slotCode.setWidth 64
  | .noticeEnable => (BitVec.ofBool s.notices.enabled).setWidth 64
  | .indexW => s.notices.w.setWidth 64
  | .indexWd => s.notices.wd.setWidth 64
  | .indexR => s.notices.r.setWidth 64
  | .writesAccepted => s.events.counters.writesAccepted.setWidth 64
  | .writesLost => s.events.counters.writesLost.setWidth 64
  | .readsAnswered => s.events.counters.readsAnswered.setWidth 64
  | .readsExpired => s.events.counters.readsExpired.setWidth 64
  | .busyResponses => s.events.counters.busyResponses.setWidth 64
  | .noticesWritten => s.events.counters.noticesWritten.setWidth 64
  | .noticesOverrun => s.events.counters.noticesOverrun.setWidth 64
  | .queueFull => s.events.counters.queueFull.setWidth 64
  | .fault k => s.events.counters.faults[k].setWidth 64
  | .inspectSelect => s.port.inspectSelect.setWidth 64
  | .snapState => BitVec.ofNat 64 s.port.snapshot.state.code
  | .snapPending => BitVec.ofNat 64 s.port.snapshot.pending
  | .snapFlags => s.port.snapshot.flags.toByte.setWidth 64
  | .snapSeq => s.port.snapshot.seq.setWidth 64
  | .snapHighWater => BitVec.ofNat 64 s.port.snapshot.highWater
  | .snapLength => BitVec.ofNat 64 s.port.snapshot.length
  | .snapCloseTime => s.port.snapshot.closeTime.setWidth 64
  | .ring r f => s.ringFieldValue r f

/-! ### Writes -/

/-- A configuration field of a ring's block (R1). -/
def RingField.isConfig : RingField → Bool
  | .base => true
  | .sizeCode => true
  | .sectorCount => true
  | .producer => true
  | .consumer => true
  | .monitors => true
  | .modes => true
  | .fillTimeout => true
  | .marker => true
  | .lifecycle => false
  | .fillPointer => false
  | .fillState => false
  | .noticeGap => false
  | .nextSeq => false
  | .lostCount => false
  | .delivered => false
  | .lost => false
  | .fillTimeouts => false
  | .stalls => false
  | .producerFaults => false
  | .consumerFaults => false

/-- A notice-queue configuration field (R129). -/
def Field.isNoticeConfig (f : Field) : Bool :=
  decide (f = .noticeBase) || decide (f = .returnAddress) || decide (f = .slotCode)

/-- The field is a configuration field that is locked: of a ring that is not OFF, or of the notice queue
while it is enabled (R149). -/
def State.locked (s : State) (f : Field) : Bool :=
  match f with
  | .ring r x => x.isConfig && decide ((s.ring r).lifecycle ≠ .off)
  | f => f.isNoticeConfig && s.notices.enabled

/-- A field that a write stores at once or stages: every writable field but the event register, the mask
register and the inspection select (R177). -/
def Field.isStored (f : Field) : Bool :=
  match f with
  | .ring _ x => x.isConfig
  | f => f.isNoticeConfig || decide (f = .discardTime) || decide (f = .attemptBudget) ||
      decide (f = .backoff) || decide (f = .command)

/-- A configuration field of a ring takes a value; the IDs take bits 3:0 (R186). -/
def RingConfig.store (c : RingConfig) (f : RingField) (v : BitVec 64) : RingConfig :=
  match f with
  | .base => { c with base := v.setWidth 32 }
  | .sizeCode => { c with sizeCode := v.setWidth 8 }
  | .sectorCount => { c with sectorCount := v.setWidth 8 }
  | .producer => { c with producer := v.setWidth 4 }
  | .consumer => { c with consumer := v.setWidth 4 }
  | .monitors => { c with monitors := v.setWidth 16 }
  | .modes => { c with modes := v.setWidth 8 }
  | .fillTimeout => { c with fillTimeout := v.setWidth 16 }
  | .marker => { c with marker := v }
  | _ => c

/-- A write of the discard time; 0 and values from 4096 leave it unchanged (R107). -/
def State.storeDiscardTime (s : State) (v : BitVec 16) : State :=
  if 1 ≤ v.toNat ∧ v.toNat ≤ 4095 then { s with discardTime := v } else s

/-- A stored field takes a value; a completed write of COMMAND is the taking of the command (R144, R177,
R186). -/
def State.store (s : State) (f : Field) (v : BitVec 64) : State :=
  match f with
  | .ring r x => { s with config := s.config.set r ((s.cfg r).store x v) }
  | .discardTime => s.storeDiscardTime (v.setWidth 16)
  | .attemptBudget => { s with link := { s.link with budget := v.setWidth 16 } }
  | .backoff => { s with link := { s.link with backoff := v.setWidth 8 } }
  | .noticeBase => { s with notices := { s.notices with base := v.setWidth 32 } }
  | .returnAddress => { s with notices := { s.notices with returnAddress := v.setWidth 32 } }
  | .slotCode => { s with notices := { s.notices with slotCode := v.setWidth 8 } }
  | .command => s.takeCommand (byteOf v 1) (v.setWidth 4)
  | _ => s

/-- What the bytes of a field hold that a write does not bring: the field's value, and for COMMAND the
ring number left from the last command (R177, R186). -/
def State.standing (s : State) (f : Field) : BitVec 64 :=
  if f = .command then s.port.commandRing.setWidth 64 else s.fieldValue f

/-- The staged bytes in their places, over the standing value (R177). -/
def mergeBytes (bytes : Vector (Option Byte) 8) (v : BitVec 64) : BitVec 64 :=
  bytes[7].getD (byteOf v 7) ++ bytes[6].getD (byteOf v 6) ++ bytes[5].getD (byteOf v 5) ++
    bytes[4].getD (byteOf v 4) ++ bytes[3].getD (byteOf v 3) ++ bytes[2].getD (byteOf v 2) ++
    bytes[1].getD (byteOf v 1) ++ bytes[0].getD (byteOf v 0)

/-- The bytes of a field staged so far; none where the register is empty or holds another field (R177). -/
def State.stagedBytes (s : State) (f : Field) : Vector (Option Byte) 8 :=
  match s.port.staging with
  | some t => if t.field = f then t.bytes else Vector.replicate 8 none
  | none => Vector.replicate 8 none

/-- A byte of a multi-byte field is staged, and its last byte completes the write (R177). -/
def State.stage (s : State) (f : Field) (k : Nat) (b : Byte) : State :=
  let bytes := (s.stagedBytes f).setIfInBounds k (some b)
  if k + 1 = f.size then
    ({ s with port := { s.port with staging := none } } : State).store f (mergeBytes bytes (s.standing f))
  else { s with port := { s.port with staging := some { field := f, bytes := bytes } } }

/-- The inspection snapshot of a selection: the named record, or the cleared one where the sector is not
less than the ring's configured sector count (R11, R179). -/
def State.inspect (s : State) (v : Byte) : State :=
  let r : RingNo := Fin.ofNat 8 (v.toNat / 32)
  let i : SectorNo := Fin.ofNat 32 v.toNat
  { s with port := { s.port with
      inspectSelect := v
      snapshot := if i.val < (s.cfg r).sectorCount.toNat then s.record r i else {} } }

/-- A data byte written to a field (R177). -/
def State.writeField (s : State) (f : Field) (k : Nat) (b : Byte) : State :=
  if s.locked f then { s with port := { s.port with configLocked := true } }
  else
    match f with
    | .eventLow => s.clearFlags .low b
    | .eventHigh => s.clearFlags .high b
    | .maskLow => s.writeMask .low b
    | .maskHigh => s.writeMask .high b
    | .inspectSelect => s.inspect b
    | f =>
      if f.isStored then
        if f.size = 1 then s.store f (b.setWidth 64) else s.stage f k b
      else s

/-- A data byte written at an offset; one in no field is ignored (R176, R177). -/
def State.writeByteAt (s : State) (o : BitVec 16) (b : Byte) : State :=
  match fieldAt o.toNat with
  | some f => s.writeField f (o.toNat - f.start) b
  | none => s

/-! ### Reads -/

/-- The byte that a read of byte k of a field sends: from the copy in the holding register where that
applies, and live otherwise (R178). -/
def State.fieldByte (s : State) (f : Field) (k : Nat) : Byte :=
  match s.port.holding with
  | some h => if h.field = f ∧ k ≠ 0 then byteOf h.value k else byteOf (s.fieldValue f) k
  | none => byteOf (s.fieldValue f) k

/-- What the holding register holds after the read of byte k of a field (R178). -/
def State.heldAfter (s : State) (f : Field) (k : Nat) : Option Holding :=
  if f.size = 1 then none
  else if k = 0 then some { field := f, value := s.fieldValue f }
  else
    match s.port.holding with
    | some h => if h.field = f then some h else none
    | none => none

/-- A byte is sent: the holding register follows R178, and a read of the management status byte clears
CONFIG_LOCKED (R180). -/
def State.readField (s : State) (f : Field) (k : Nat) : State :=
  { s with port := { s.port with
      sent := some (s.fieldByte f k)
      holding := s.heldAfter f k
      configLocked := if f = .status then false else s.port.configLocked } }

/-- A byte at an offset is sent; one in no field reads 0x00 and empties the holding register (R178). -/
def State.readByteAt (s : State) (o : BitVec 16) : State :=
  match fieldAt o.toNat with
  | some f => s.readField f (o.toNat - f.start)
  | none => { s with port := { s.port with sent := some 0, holding := none } }

end Sys2Proof.Machine
end

