-- ==== Sys2Proof/Machine/ManagementPort.lean ====
section
/-! DEFINITION. The management port: the meanings of DEVICE_ADDRESS, OFFSET, BUS_STOP, REGISTER_WRITE,
EVENT_REGISTER_WRITE, MASK_WRITE, INSPECTION_SELECT, SNAPSHOT_READ and STATUS_BYTE_READ (chapter 11). The
first three, REGISTER_WRITE and SNAPSHOT_READ are bus bytes, taken as the transaction stands; the
others are bytes of the register they name (log entry 5). -/

namespace Sys2Proof.Machine

/-- An address byte after a START (R175): acknowledged for the port's own address alone, and never while
PORSTn is asserted. -/
def State.addressByte (s : State) (address : BitVec 7) (read : Bool) : State :=
  if s.porstn ∨ address ≠ s.port.address then
    { s with port := { s.port with transaction := .idle, acked := false } }
  else
    { s with port := { s.port with
        transaction := if read then .reading else .writeOffset
        acked := true } }

/-- DEVICE_ADDRESS. -/
def execDeviceAddress (address : BitVec 7) (read : Bool) (s : State) : Host.Outcome State Fault Refusal :=
  .next (s.addressByte address read)

/-- The offset that two bytes complete: taken in the window, and marking the transaction out of window
outside it (R176). -/
def State.completeOffset (s : State) (o : BitVec 16) : State :=
  if o.toNat < 0x0400 then
    { s with port := { s.port with
        transaction := .writeData, acked := true, offset := o, outOfWindow := false } }
  else
    { s with port := { s.port with transaction := .writeData, acked := true, outOfWindow := true } }

/-- The offset bytes of a write transaction (R175, R176). An offset of which only the high byte was
received leaves the offset unchanged; where no offset is awaited the port takes nothing. -/
def State.offsetBytes (s : State) (high : Byte) (low : Option Byte) : State :=
  if s.porstn ∨ s.port.transaction ≠ .writeOffset then s.nack
  else
    match low with
    | some l => s.completeOffset (high ++ l)
    | none => { s with port := { s.port with acked := true } }

/-- OFFSET. -/
def execOffset (high : Byte) (low : Option Byte) (s : State) : Host.Outcome State Fault Refusal :=
  .next (s.offsetBytes high low)

/-- The end of a transaction; the out-of-window mark ends at a STOP and outlasts a repeated START (R175,
R176). -/
def State.endTransaction (s : State) (kind : BusEnd) : State :=
  { s with port := { s.port with
      transaction := .idle
      outOfWindow := match kind with
        | .stop => false
        | .repeatedStart => s.port.outOfWindow } }

/-- BUS_STOP. -/
def execBusStop (kind : BusEnd) (s : State) : Host.Outcome State Fault Refusal := .next (s.endTransaction kind)

/-- A data byte on the bus: written at the offset and acknowledged, the offset advancing; not acknowledged
where the port takes no data byte (R175 to R177). -/
def State.dataByte (s : State) (b : Byte) : State :=
  if s.portDeaf || decide (s.port.transaction ≠ .writeData) then s.nack
  else (s.writeByteAt s.port.offset b).pastByte s.port.offset

/-- REGISTER_WRITE. -/
def execRegisterWrite (b : Byte) (s : State) : Host.Outcome State Fault Refusal := .next (s.dataByte b)

/-- The offset of a byte of the event register. -/
def eventOffset : RegisterHalf → BitVec 16
  | .low => 0x0018
  | .high => 0x0019

/-- The offset of a byte of the mask register. -/
def maskOffset : RegisterHalf → BitVec 16
  | .low => 0x001A
  | .high => 0x001B

/-- EVENT_REGISTER_WRITE. -/
def execEventRegisterWrite (half : RegisterHalf) (b : Byte) (s : State) : Host.Outcome State Fault Refusal :=
  if s.portDeaf then .next s.nack else .next ((s.clearFlags half b).pastByte (eventOffset half))

/-- MASK_WRITE. -/
def execMaskWrite (half : RegisterHalf) (b : Byte) (s : State) : Host.Outcome State Fault Refusal :=
  if s.portDeaf then .next s.nack else .next ((s.writeMask half b).pastByte (maskOffset half))

/-- INSPECTION_SELECT. -/
def execInspectionSelect (b : Byte) (s : State) : Host.Outcome State Fault Refusal :=
  if s.portDeaf then .next s.nack else .next ((s.inspect b).pastByte 0x0090)

/-- A byte at a given offset has been sent: an offset that stood at it advances, and a byte that the
master does not acknowledge ends the read (R175, R176). -/
def State.pastRead (s : State) (at0 : BitVec 16) (acknowledged : Bool) : State :=
  { s with port := { s.port with
      transaction := if acknowledged then s.port.transaction else .idle
      offset := if s.port.offset = at0 then advanceOffset at0 else s.port.offset } }

/-- A byte of an out-of-window read is sent as 0xFF, with no other effect than the end of the read (R176). -/
def State.sendOutOfWindow (s : State) (acknowledged : Bool) : State :=
  { s with port := { s.port with
      sent := some 0xFF
      transaction := if acknowledged then s.port.transaction else .idle } }

/-- The port sends nothing. -/
def State.sendNothing (s : State) : State := { s with port := { s.port with sent := none } }

/-- A byte read on the bus at the offset (R175, R176, R178). -/
def State.readByte (s : State) (acknowledged : Bool) : State :=
  if s.porstn || decide (s.port.transaction ≠ .reading) then s.sendNothing
  else if s.port.outOfWindow then s.sendOutOfWindow acknowledged
  else (s.readByteAt s.port.offset).pastRead s.port.offset acknowledged

/-- SNAPSHOT_READ. -/
def execSnapshotRead (acknowledged : Bool) (s : State) : Host.Outcome State Fault Refusal :=
  .next (s.readByte acknowledged)

/-- STATUS_BYTE_READ (R180). -/
def execStatusByteRead (acknowledged : Bool) (s : State) : Host.Outcome State Fault Refusal :=
  if s.porstn then .next s.sendNothing
  else if s.port.outOfWindow then .next (s.sendOutOfWindow acknowledged)
  else .next ((s.readField .status 0).pastRead 0x0000 acknowledged)

end Sys2Proof.Machine
end

