-- ==== Sys2Proof/Config.lean ====
section
/-! DEFINITION. What the spec leaves open and the model leaves free. -/

namespace Sys2Proof

/-- FREE VALUE (log entry 2). LRSTn closes the messages of several rings at one event (R164), and the
spec does not say in which order their notices reach the pending notice FIFO. The rings are taken in
rising rank at choice number `choice`; nothing constrains the ranks. -/
opaque Config.ringRank (choice : Nat) (ring : RingNo) : Nat

end Sys2Proof
end

