-- ==== Sys2Proof/Machine/Resets.lean ====
section
/-! DEFINITION. The reset lines: the meanings of LRSTN_ASSERTED, LRSTN_NEGATED, PORSTN_ASSERTED and
PORSTN_NEGATED (R164, R165, R175, R181). -/

namespace Sys2Proof.Machine

/-- ABORTED joins the flags of a message (R16). -/
def SectorFlags.markAborted (f : SectorFlags) : SectorFlags := { f with aborted := true }

/-- LRSTn closes the producer's current message of a ring that is ACTIVE or STOPPING (R51). -/
def State.abortRing (s : State) (r : RingNo) : State :=
  if (s.ring r).lifecycle = .active ∨ (s.ring r).lifecycle = .stopping then
    s.closeCurrent r SectorFlags.markAborted
  else s

/-- The order in which one assertion of LRSTn takes the rings, from the free ranks (log entry 2). -/
def ringOrder (choice : Nat) : List RingNo :=
  allRings.insertionSort fun a b => Config.ringRank choice a ≤ Config.ringRank choice b

/-- The effects of the assertion of LRSTn, the rings taken in the given order (R164). -/
def State.linkReset (s : State) (order : List RingNo) : State :=
  (order.foldl State.abortRing (s.freeReads fun _ => true)).post .linkReset

/-- LRSTN_ASSERTED: the event is the change of the line from negated to asserted (R164). -/
def execLrstnAsserted (s : State) : Host.Outcome State Fault Refusal :=
  if s.lrstn then .next s
  else .next { s.linkReset (ringOrder s.orderChoice) with lrstn := true, orderChoice := s.orderChoice + 1 }

/-- LRSTN_NEGATED changes no state but the line, and requests may arrive again (R165). -/
def execLrstnNegated (s : State) : Host.Outcome State Fault Refusal := .next { s with lrstn := false }

/-- PORSTN_ASSERTED: a management transaction in progress is abandoned (R175, R181). -/
def execPorstnAsserted (s : State) : Host.Outcome State Fault Refusal :=
  .next { s with porstn := true, port := { s.port with transaction := .idle, acked := false, sent := none } }

/-- The device address: 0x3A plus the binary value of MA1..MA0 (R175). -/
def deviceAddressOf (ma : BitVec 2) : BitVec 7 := 0x3A + ma.setWidth 7

/-- Every item of the part at its power-on value, with the MA pins sampled (R181). The level of LRSTn is
the line's own (R164). -/
def State.powerOn (s : State) (ma : BitVec 2) : State :=
  { State.reset with
    pending := s.pending
    orderChoice := s.orderChoice
    lrstn := s.lrstn
    port := { address := deviceAddressOf ma } }

/-- PORSTN_NEGATED. -/
def execPorstnNegated (ma : BitVec 2) (s : State) : Host.Outcome State Fault Refusal := .next (s.powerOn ma)

end Sys2Proof.Machine
end

