-- ==== Sys2Proof/Machine/Timers.lean ====
section
/-! DEFINITION. Time: the meanings of TICK, FILL_TIMER_EXPIRY and DISCARD_TIMER_EXPIRY (R48, R49, R107,
R122, R182). A running timer holds the ticks still to be counted, and its expiry is taken once none
are left (log entry 6). -/

namespace Sys2Proof.Machine

/-- A running timer counts one tick. -/
def countDown (x : Option Nat) : Option Nat := x.map (· - 1)

/-- The backoff of the queue head counts one tick (R122). -/
def IssueState.tick : IssueState → IssueState
  | .waiting => .waiting
  | .inFlight => .inFlight
  | .backoff n => .backoff (n - 1)

/-- The backoff or the discard timer of a read entry counts one tick (R107, R122). -/
def ReadPhase.tick : ReadPhase → ReadPhase
  | .queued b => .queued (countDown b)
  | .issued x => .issued x
  | .complete x n => .complete x (n - 1)

/-- A read entry counts one tick. -/
def ReadEntry.tick (e : ReadEntry) : ReadEntry := { e with phase := e.phase.tick }

/-- The backoff of a notice counts one tick (R122). -/
def PendingNotice.tick (n : PendingNotice) : PendingNotice := { n with backoff := countDown n.backoff }

/-- The fill timer of a ring counts one tick (R48). -/
def RingState.tick (x : RingState) : RingState := { x with fillTimer := countDown x.fillTimer }

/-- One tick: the timestamp rises, wrapping, and every running timer counts it (R182). -/
def State.tick (s : State) : State :=
  { s with
    timestamp := s.timestamp + 1
    headIssue := s.headIssue.tick
    reads := s.reads.map ReadEntry.tick
    rings := s.rings.map RingState.tick
    notices := { s.notices with fifo := s.notices.fifo.map PendingNotice.tick } }

/-- TICK; ticks are counted from the negation of PORSTn (R182). -/
def execTick (s : State) : Host.Outcome State Fault Refusal :=
  if s.porstn then .next s else .next s.tick

/-- The fill-timeouts counter of a ring rises (R171). -/
def RingState.countFillTimeout (x : RingState) : RingState :=
  { x with counters := { x.counters with fillTimeouts := satSucc x.counters.fillTimeouts } }

/-- TIMED_OUT joins the flags of a message (R15). -/
def SectorFlags.markTimedOut (f : SectorFlags) : SectorFlags := { f with timedOut := true }

/-- The expiry of a ring's fill timer (R49). A timer that is stopped, or whose interval has not been
counted, does not expire (R48). -/
def State.expireFill (s : State) (r : RingNo) : State :=
  if (s.ring r).fillTimer = some 0 then
    ((s.setRing r (s.ring r).countFillTimeout).post .fillTimeout).closeCurrent r SectorFlags.markTimedOut
  else s

/-- FILL_TIMER_EXPIRY. -/
def execFillTimerExpiry (r : RingNo) (s : State) : Host.Outcome State Fault Refusal :=
  .next (s.expireFill r)

/-- The discard timer of an entry has counted its interval (R107). -/
def ReadEntry.expired (e : ReadEntry) : Bool :=
  match e.phase with
  | .complete _ 0 => true
  | .complete _ (_ + 1) => false
  | .queued _ => false
  | .issued _ => false

/-- The expiry of the discard timer of a read's entry (R107). -/
def State.expireRead (s : State) (k : ReadRequest) : State :=
  match s.findRead k with
  | some e => if e.expired then ((s.removeRead k).countExpired).post .readExpired else s
  | none => s

/-- DISCARD_TIMER_EXPIRY. -/
def execDiscardTimerExpiry (k : ReadRequest) (s : State) : Host.Outcome State Fault Refusal :=
  .next (s.expireRead k)

end Sys2Proof.Machine
end

