-- ==== Sys2Proof/Machine/Dispatch.lean ====
section
/-! DEFINITION. One arm per command: each calls the meaning of its row. -/

namespace Sys2Proof.Machine

/-- The effect of a command on everything but the queue of waiting commands. -/
def exec (i : Instr) (s : State) : Host.Outcome State Fault Refusal :=
  match i with
  | .writeArrival q => Sys2Proof.Machine.execWriteArrival q s
  | .readArrival k => Sys2Proof.Machine.execReadArrival k s
  | .grant => Sys2Proof.Machine.execGrant s
  | .okayResponse tag data => Sys2Proof.Machine.execOkayResponse tag data s
  | .busyResponse tag => Sys2Proof.Machine.execBusyResponse tag s
  | .errorResponse tag kind => Sys2Proof.Machine.execErrorResponse tag kind s
  | .backoffExpiry owner => Sys2Proof.Machine.execBackoffExpiry owner s
  | .fillTimerExpiry r => Sys2Proof.Machine.execFillTimerExpiry r s
  | .discardTimerExpiry k => Sys2Proof.Machine.execDiscardTimerExpiry k s
  | .lrstnAsserted => Sys2Proof.Machine.execLrstnAsserted s
  | .lrstnNegated => Sys2Proof.Machine.execLrstnNegated s
  | .porstnAsserted => Sys2Proof.Machine.execPorstnAsserted s
  | .porstnNegated ma => Sys2Proof.Machine.execPorstnNegated ma s
  | .enable ring => Sys2Proof.Machine.execEnable ring s
  | .stop ring => Sys2Proof.Machine.execStop ring s
  | .purge ring => Sys2Proof.Machine.execPurge ring s
  | .flushReads ring => Sys2Proof.Machine.execFlushReads ring s
  | .clearCounters ring => Sys2Proof.Machine.execClearCounters ring s
  | .noticeEnable ring => Sys2Proof.Machine.execNoticeEnable ring s
  | .noticeDisable ring => Sys2Proof.Machine.execNoticeDisable ring s
  | .datapathReset ring => Sys2Proof.Machine.execDatapathReset ring s
  | .unknownCommand code ring => Sys2Proof.Machine.execUnknownCommand code ring s
  | .deviceAddress address read => Sys2Proof.Machine.execDeviceAddress address read s
  | .offset high low => Sys2Proof.Machine.execOffset high low s
  | .busStop kind => Sys2Proof.Machine.execBusStop kind s
  | .registerWrite b => Sys2Proof.Machine.execRegisterWrite b s
  | .eventRegisterWrite half b => Sys2Proof.Machine.execEventRegisterWrite half b s
  | .maskWrite half b => Sys2Proof.Machine.execMaskWrite half b s
  | .inspectionSelect b => Sys2Proof.Machine.execInspectionSelect b s
  | .snapshotRead acknowledged => Sys2Proof.Machine.execSnapshotRead acknowledged s
  | .statusByteRead acknowledged => Sys2Proof.Machine.execStatusByteRead acknowledged s
  | .tick => Sys2Proof.Machine.execTick s

end Sys2Proof.Machine
end

