-- ==== Sys2Proof/Safety.lean ====
section
/-! DEFINITION. What a sound state of the part is: the laws of the spec that hold between its blocks, each
stated over a state alone. -/

namespace Sys2Proof.Safety

open Sys2Proof.Machine

/-- The sector tag of an entry (R75). -/
def tagOf : EntryKind → Option (RingNo × SectorNo)
  | .pass => none
  | .fill r i => some (r, i)
  | .close r i => some (r, i)
  | .release r i => some (r, i)

/-- The number of queue entries tagged with a sector (R22). -/
def taggedCount (q : List QueueEntry) (r : RingNo) (i : SectorNo) : Nat :=
  q.countP fun e => decide (tagOf e.kind = some (r, i))

/-- The collections keep their limits: at most 32 queue entries (R74), 8 read entries, 2 for each
initiator, no two for one read (R93), and 16 pending notices (R135); the offset lies in the window (R176). -/
structure Bounded (s : State) : Prop where
  queue : s.pwq.length ≤ 32
  reads : s.reads.length ≤ 8
  share : ∀ i : InitiatorId, s.reads.countP (fun e => decide (e.request.initiator = i)) ≤ 2
  distinct : (s.reads.map ReadEntry.request).Nodup
  fifo : s.notices.fifo.length ≤ 16
  offset : s.port.offset.toNat ≤ 0x03FF

/-- What the pending count of a sector can be in each state (R12, R14, R17 to R21). -/
def pendingFits (x : SectorRecord) : Prop :=
  match x.state with
  | .free => x.pending = 0
  | .filling => True
  | .closing => 0 < x.pending
  | .ready => x.pending = 0
  | .releasing => x.pending = 1
  | .purging => 0 < x.pending

/-- The rings, their sectors and the queue agree: a pending count is the number of queue entries tagged
with its sector (R22) and fits its state; a decode entry is valid exactly while its ring is not OFF, and
then equals the ring's valid configuration (R3, R146); the fill state is OPEN exactly while the sector at
the fill pointer is FILLING, and no other sector is (R30); an OFF ring is IDLE with every sector FREE
(R27, R30); a PURGING ring is IDLE, and each of its sectors is FREE or PURGING (R20, R54), as no sector
of another ring is PURGING. -/
structure Consistent (s : State) : Prop where
  counts : ∀ r i, (s.record r i).pending = taggedCount s.pwq r i
  fits : ∀ r i, pendingFits (s.record r i)
  decoded : ∀ r, (s.window r).isSome = true ↔ (s.ring r).lifecycle ≠ .off
  copied : ∀ r d, s.window r = some d → d = (s.cfg r).decodeEntry ∧ (s.cfg r).valid = true
  filling : ∀ r i, (s.record r i).state = .filling ↔
    ((s.ring r).fillState = .opened ∧ i = (s.ring r).fillPointer)
  off : ∀ r, (s.ring r).lifecycle = .off →
    (s.ring r).fillState = .idle ∧ ∀ i, (s.record r i).state = .free
  purging : ∀ r, (s.ring r).lifecycle = .purging →
    (s.ring r).fillState = .idle ∧ ∀ i, (s.record r i).state = .free ∨ (s.record r i).state = .purging
  purged : ∀ r i, (s.record r i).state = .purging → (s.ring r).lifecycle = .purging

/-- A read slot holds the ISSUED entry of its owner (R114). -/
def slotHolds (s : State) (x : ReadSlot) : Prop :=
  ∀ k, x = .occupied k → ∃ e ∈ s.reads, e.request = k ∧ e.inFlight = true

/-- The slots and their owners agree: the write slot is the queue head's exactly while the head is
IN_FLIGHT, and then there is a head; a read slot that is OCCUPIED holds an ISSUED entry, each ISSUED entry
has one slot, the slots have different owners (R83, R94, R114), and no two entries are for one read
(R93). -/
structure SlotsAgree (s : State) : Prop where
  head : s.link.writeSlot = .occupied .queueHead ↔ s.headIssue = .inFlight
  nonempty : s.headIssue = .inFlight → s.pwq ≠ []
  readA : slotHolds s s.link.readA
  readB : slotHolds s s.link.readB
  apart : ∀ k, s.link.readA = .occupied k → s.link.readB ≠ .occupied k
  held : ∀ e ∈ s.reads, e.inFlight = true →
    s.link.readA = .occupied e.request ∨ s.link.readB = .occupied e.request
  distinct : (s.reads.map ReadEntry.request).Nodup

/-- A read entry waits behind exactly the queued writes of its line: a QUEUED entry counts them all, an
ISSUED entry whose stale flag is clear and a COMPLETE entry have none (R98, R99). -/
def waitsFor (q : List QueueEntry) (e : ReadEntry) : Prop :=
  match e.phase with
  | .queued _ => e.counted = lineHits e.line q
  | .issued true => e.counted = []
  | .issued false => e.counted = [] ∧ lineHits e.line q = []
  | .complete _ _ => e.counted = [] ∧ lineHits e.line q = []

/-- Every read entry waits behind exactly the queued writes of its line. -/
def ReadsWait (s : State) : Prop := ∀ e ∈ s.reads, waitsFor s.pwq e

/-- The indices of the notice queue: only the head of the FIFO holds an assigned slot, the difference of
W and Wd is 1 exactly while it does, and 0 otherwise (R128); a notice write in flight is the head's; and
while the queue is enabled the completed and the assigned notices fit in its slots (R137). -/
structure IndicesAgree (s : State) : Prop where
  later : ∀ n ∈ s.notices.fifo.tail, n.slot = none
  assigned : ∀ n, s.notices.fifo.head? = some n →
    s.notices.w - s.notices.wd = if n.slot.isSome then 1 else 0
  empty : s.notices.fifo = [] → s.notices.w = s.notices.wd
  inFlight : s.link.writeSlot = .occupied .noticeHead →
    ∃ n, s.notices.fifo.head? = some n ∧ n.slot.isSome = true
  fits : s.notices.enabled = true →
    s.notices.slots ≤ 1024 ∧
      (s.notices.wd - s.notices.r).toNat + (s.notices.w - s.notices.wd).toNat ≤ s.notices.slots

/-- A tagged read entry lies in a READY sector of its ring's window (R59). -/
def TaggedReadsReady (s : State) : Prop :=
  ∀ e ∈ s.reads, ∀ r i, e.tag = some (r, i) →
    (s.record r i).state = .ready ∧ ∃ d, s.window r = some d ∧ d.inSector i e.request.address = true

/-- A fill timer runs exactly while a message or a shadow is open in a ring whose fill timeout is not 0, and
holds at most the full interval (R48); the fill pointer of a ring that is not OFF names one of its sectors
(R28). -/
structure TimersRun (s : State) : Prop where
  running : ∀ r, (s.ring r).fillTimer.isSome = true ↔
    ((s.ring r).fillState ≠ .idle ∧ (s.cfg r).fillTimeout ≠ 0)
  interval : ∀ r n, (s.ring r).fillTimer = some n → n ≤ 16 * (s.cfg r).fillTimeout.toNat
  pointed : ∀ r, (s.ring r).lifecycle ≠ .off → (s.ring r).fillPointer.val < (s.cfg r).sectorCount.toNat

/-- Nothing is left undone that a step takes at once: a FILL or CLOSE head of a PURGING sector is in flight
(R23, R90), a STOPPING ring fails the test for becoming OFF (R151), and a PURGING ring has a PURGING sector
(R153). -/
structure Drained (s : State) : Prop where
  head : s.headIsPurged = true → s.headIssue = .inFlight
  stopping : ∀ r, (s.ring r).lifecycle = .stopping →
    (s.ring r).fillState ≠ .idle ∨ ∃ i, (s.record r i).state ≠ .free
  purging : ∀ r, (s.ring r).lifecycle = .purging → ∃ i, (s.record r i).state = .purging

/-- The bytes of a decoded window (R2). -/
def inWindow (d : DecodeEntry) (b : Nat) : Prop :=
  d.base.toNat ≤ b ∧ b < d.base.toNat + d.sectorSize * d.sectorCount

/-- The bytes of the notice window (R129). -/
def inNoticeWindow (n : NoticeUnit) (b : Nat) : Prop := n.base.toNat ≤ b ∧ b < n.base.toNat + 16 * n.slots

/-- The 8 bytes of the return index word (R129). -/
def inReturnWord (n : NoticeUnit) (b : Nat) : Prop :=
  n.returnAddress.toNat ≤ b ∧ b < n.returnAddress.toNat + 8

/-- No byte lies in two ranges that are decoded at the same time: the windows of two rings, and, while the
notice queue is enabled, the notice window and the return index word (R2, R147). -/
structure WindowsApart (s : State) : Prop where
  rings : ∀ r r' d d' b, r ≠ r' → s.window r = some d → s.window r' = some d' →
    ¬ (inWindow d b ∧ inWindow d' b)
  notices : ∀ r d b, s.notices.enabled = true → s.window r = some d → inWindow d b →
    ¬ inNoticeWindow s.notices b ∧ ¬ inReturnWord s.notices b
  word : ∀ b, s.notices.enabled = true → ¬ (inNoticeWindow s.notices b ∧ inReturnWord s.notices b)

/-! ### The terms of the statements -/

/-- The arrival of a write is judged: LRSTn is negated, and the request is aligned and of the class (R158,
R160, R165). -/
def writeOf (s : State) (q : WriteRequest) (c : RequestClass) : Prop :=
  s.lrstn = false ∧ aligned q.address (wordsOf q).length = true ∧
    s.classify q.address (wordsOf q).length q.initiator = c

/-- The arrival of a read is judged: LRSTn is negated, and the request is aligned and of the class (R158,
R160, R165). -/
def readOf (s : State) (k : ReadRequest) (c : RequestClass) : Prop :=
  s.lrstn = false ∧ aligned k.address (countOf k) = true ∧ s.classify k.address (countOf k) k.initiator = c

/-- A ring serves requests as an ACTIVE ring does (R26). -/
def serves (s : State) (r : RingNo) : Prop :=
  (s.ring r).lifecycle = .active ∨ (s.ring r).lifecycle = .stopping

/-- A producer write that is neither refused for its header nor a close trigger (R37, R38, R41, R183). -/
def ordinary (c : RingConfig) (w : Nat) (q : WriteRequest) : Prop :=
  (c.modes &&& 3 = 0 ∧ (w = 0 → q.first.mask = 0xFF ∧ q.first.data.getLsbD 16 = false)) ∨
    (c.modes &&& 3 = 1 ∧ ∀ x ∈ q.first :: q.rest, ¬ (x.mask = 0xFF ∧ x.data = c.marker))

/-- A HEADER-mode close trigger whose length fits the payload capacity (R37, R39, R183). -/
def completeHeader (c : RingConfig) (w : Nat) (q : WriteRequest) : Prop :=
  c.modes &&& 3 = 0 ∧ w = 0 ∧ q.first.mask = 0xFF ∧ q.first.data.getLsbD 16 = true ∧
    (q.first.data.setWidth 16).toNat ≤ c.sectorSize - 8

/-- A MARKER-mode close trigger: the words before the marker word, the marker word, and the words after it
(R41). -/
def markedWords (c : RingConfig) (q : WriteRequest) (before : List WriteWord) (m : WriteWord)
    (after : List WriteWord) : Prop :=
  c.modes &&& 3 = 1 ∧ q.first :: q.rest = before ++ m :: after ∧ m.mask = 0xFF ∧ m.data = c.marker ∧
    ∀ x ∈ before, ¬ (x.mask = 0xFF ∧ x.data = c.marker)

/-- A producer write that passes the header checks (R32 steps 3 and 4). -/
def passesHeaderChecks (c : RingConfig) (w : Nat) (q : WriteRequest) : Prop :=
  c.modes &&& 3 = 0 → w = 0 → q.first.mask = 0xFF ∧
    (q.first.data.getLsbD 16 = true → (q.first.data.setWidth 16).toNat ≤ c.sectorSize - 8)

/-- The state after a FAULT that is no ALIGN: its counter one higher and FAULT_SENT set (R166). -/
def faulted (s : State) (f : FaultReason) : State :=
  { s with
    hostResponse := some (.fault f)
    events := { s.events with
      flags := s.events.flags ||| 0x100
      counters := { s.events.counters with
        faults := s.events.counters.faults.set f.index (satSucc s.events.counters.faults[f.index]) } } }

/-- The ring's producer-faults counter one higher (R34, R171). -/
def producerFaulted (s : State) (r : RingNo) : State :=
  { s with rings := s.rings.set r { s.ring r with
      counters := { (s.ring r).counters with
        producerFaults := satSucc (s.ring r).counters.producerFaults } } }

/-- The ring's consumer-faults counter one higher (R61, R171). -/
def consumerFaulted (s : State) (r : RingNo) : State :=
  { s with rings := s.rings.set r { s.ring r with
      counters := { (s.ring r).counters with
        consumerFaults := satSucc (s.ring r).counters.consumerFaults } } }

/-- ACCEPT, with the writes-accepted counter one higher (R161). -/
def accepted (s : State) : State :=
  { s with
    hostResponse := some .accept
    events := { s.events with counters := { s.events.counters with
      writesAccepted := satSucc s.events.counters.writesAccepted } } }

/-- A sector record replaced (R9). -/
def withRecord (s : State) (r : RingNo) (i : SectorNo) (x : SectorRecord) : State :=
  { s with sectors := s.sectors.set r (s.sectors[r].set i x) }

/-- The runtime record of a ring replaced (R28). -/
def withRing (s : State) (r : RingNo) (x : RingState) : State := { s with rings := s.rings.set r x }

/-- A command's result loaded, its ring number kept, the staging register empty, the byte acknowledged and an
offset that stood at COMMAND's last byte advanced (R144, R176, R177, R186). -/
def commandDone (s : State) (code : Byte) (ring : BitVec 4) (v : Verdict) : State :=
  { s with port := { s.port with
      result := { ring := ring, code := code, verdict := v }
      commandRing := ring
      staging := none
      acked := true
      offset := if s.port.offset = 0x0011 then 0x0012 else s.port.offset } }

/-- The port takes a data byte: PORSTn is negated and the transaction is not out of window (R175, R176). -/
def portTakes (s : State) : Prop := s.porstn = false ∧ s.port.outOfWindow = false

/-- The entries that a condition names are freed: each leaves the table, and the read slot of one that is ISSUED
becomes ORPHANED (R64, R108, R125). -/
def freed (s : State) (p : ReadEntry → Bool) : State :=
  { s with
    reads := s.reads.filter fun e => !p e
    link := { s.link with
      readA := if s.reads.any (fun e => p e && e.inFlight && decide (s.link.readA = .occupied e.request))
        then .orphaned else s.link.readA
      readB := if s.reads.any (fun e => p e && e.inFlight && decide (s.link.readB = .occupied e.request))
        then .orphaned else s.link.readB } }

/-- A fill timer after the start that a timeout T brings: 16 × T ticks, or as it was while T is 0 (R48). -/
def restarted (timeout : BitVec 16) (timer : Option Nat) : Option Nat :=
  if timeout = 0 then timer else some (16 * timeout.toNat)

/-- The sector after F (R29). -/
def nextSector (s : State) (r : RingNo) : SectorNo :=
  Fin.ofNat 32 (((s.ring r).fillPointer.val + 1) % (s.cfg r).sectorCount.toNat)

/-- The runtime record of a ring whose producer's message has closed (R29). -/
def closedRing (s : State) (r : RingNo) (x : RingState) : RingState :=
  { x with fillPointer := nextSector s r, fillState := .idle, fillTimer := none }

/-- A configuration that ENABLE does not refuse with BAD_CONFIG (R146). -/
def validConfig (c : RingConfig) : Prop :=
  c.sizeCode.toNat ≤ 6 ∧ 2 ≤ c.sectorCount.toNat ∧ c.sectorCount.toNat ≤ 32 ∧
    c.base.toNat % (256 * 2 ^ c.sizeCode.toNat) = 0 ∧
    c.base.toNat + 256 * 2 ^ c.sizeCode.toNat * c.sectorCount.toNat - 1 ≤ 0xFFFFFFFF ∧
    c.consumer ≠ c.producer ∧ c.monitors.getLsbD c.producer.toNat = false ∧
    c.monitors.getLsbD c.consumer.toNat = false ∧
    (c.modes &&& 3 = 0 ∨ c.modes &&& 3 = 1) ∧ (c.modes &&& 12 = 0 ∨ c.modes &&& 12 = 4)

/-- The window of a ring's configuration shares a byte with a decoded window, the notice window or the return
index word (R147). -/
def configOverlaps (s : State) (r : RingNo) : Prop :=
  ∃ b, inWindow (s.cfg r).decodeEntry b ∧
    ((∃ r' d, s.window r' = some d ∧ inWindow d b) ∨ inNoticeWindow s.notices b ∨ inReturnWord s.notices b)

/-- A notice-queue configuration that NOTICE_ENABLE does not refuse with BAD_CONFIG (R130). -/
def validNoticeConfig (n : NoticeUnit) : Prop :=
  n.slotCode.toNat ≤ 6 ∧ n.base.toNat % (16 * (16 * 2 ^ n.slotCode.toNat)) = 0 ∧
    n.returnAddress.toNat % 8 = 0 ∧ ¬ ∃ b, inNoticeWindow n b ∧ inReturnWord n b

/-- The notice window or the return index word shares a byte with a decoded window (R130). -/
def noticeConfigOverlaps (s : State) : Prop :=
  ∃ b r d, s.window r = some d ∧ inWindow d b ∧ (inNoticeWindow s.notices b ∨ inReturnWord s.notices b)

/-- The effect of a purge on one sector record (R20, R21). -/
def purgedRecord (x : SectorRecord) : SectorRecord :=
  { x with state := if x.state = .free ∨ x.pending = 0 then .free else .purging }

/-- A data byte at the offset is taken (R175, R176). -/
def tookByte (s : State) : State :=
  { s with port := { s.port with
      acked := true
      offset := if s.port.offset = 0x03FF then 0 else s.port.offset + 1 } }

/-- The requester is granted: it is eligible, and none before it in the rotation is (R116). -/
def granted (s : State) (q : Requester) : Prop :=
  s.eligible q = true ∧
    (s.link.next = q ∨
      (s.link.next.after = q ∧ s.eligible s.link.next = false) ∨
      (s.link.next.after.after = q ∧ s.eligible s.link.next = false ∧ s.eligible s.link.next.after = false))

/-- The entry at the head is a FILL or CLOSE of a PURGING sector, and is retired, not issued (R90). -/
def retires (s : State) (q : List QueueEntry) : Prop :=
  ∃ e r i, q.head? = some e ∧ (e.kind = .fill r i ∨ e.kind = .close r i) ∧ (s.record r i).state = .purging

/-! ### Notices, and rings that become OFF -/

/-- The notices-overrun counter one higher and NOTICE_OVERRUN set (R135). -/
def overrun (v : EventUnit) : EventUnit :=
  { v with
    flags := v.flags ||| 0x08
    counters := { v.counters with noticesOverrun := satSucc v.counters.noticesOverrun } }

/-- A notice of ring n.ring is generated: nothing while the queue is disabled (R132); otherwise the ring's
lost count is zeroed and its notice-gap flag cleared (R47), and the notice joins the FIFO, or is dropped at
16 entries with the flag set again (R135). -/
def announced (s : State) (n : Notice) : State :=
  if s.notices.enabled = true then
    if s.notices.fifo.length < 16 then
      { withRing s n.ring { s.ring n.ring with lostCount := 0, noticeGap := false } with
        notices := { s.notices with
          fifo := s.notices.fifo ++ [{ notice := n, slot := none, attempts := 0, backoff := none }] } }
    else
      { withRing s n.ring { s.ring n.ring with lostCount := 0, noticeGap := true } with
        events := overrun s.events }
  else s

/-- A sector whose record is x becomes READY: the message is counted, and announced by a MESSAGE notice while
the ring's notices are on (R17, R133). -/
def delivered (s : State) (r : RingNo) (i : SectorNo) (x : SectorRecord) : State :=
  let t := withRing (withRecord s r i { x with state := .ready, pending := 0 }) r
    { s.ring r with counters := { (s.ring r).counters with
      delivered := satSucc (s.ring r).counters.delivered } }
  if (s.cfg r).modes.getLsbD 4 = true then
    announced t {
      type := .message
      ring := r
      sector := i
      seq := x.seq
      length := x.length
      flags := x.flags
      gap := (s.ring r).noticeGap
      lost := (s.ring r).lostCount
      highWater := x.highWater
      closeTime := x.closeTime }
  else t

/-- A ring becomes OFF: its decode entry is absent, its other runtime fields are kept, and its RING_OFF or
PURGED notice is generated (R134, R151, R153). -/
def turnedOff (s : State) (r : RingNo) (type : NoticeType) : State :=
  announced { withRing s r { s.ring r with lifecycle := .off } with decode := s.decode.set r none } {
    type := type
    ring := r
    sector := (s.ring r).fillPointer
    seq := (s.ring r).nextSeq
    length := 0
    flags := {}
    gap := (s.ring r).noticeGap
    lost := (s.ring r).lostCount
    highWater := 0
    closeTime := s.timestamp }

/-! ### Departures from the Posted Write Queue -/

/-- The blocking counts after the head has left: its place leaves each counted set (R86, R98). -/
def uncounted (reads : List ReadEntry) : List ReadEntry :=
  reads.map fun x => { x with counted := (x.counted.filter (· ≠ 0)).map (· - 1) }

/-- The head has left the queue, before the effects on its sector: q stays behind, and the entry at the head
of q waits to be offered (R86). -/
def headless (s : State) (q : List QueueEntry) : State :=
  { s with pwq := q, headIssue := .waiting, reads := uncounted s.reads }

/-- WRITE_ERROR joins a record's flags where a FILL or CLOSE write of its sector was lost (R24). -/
def errorIf (lost : Bool) (x : SectorRecord) : SectorRecord :=
  { x with flags := { x.flags with writeError := x.flags.writeError || lost } }

/-- A PURGING sector has lost a tagged entry: it becomes FREE with its last one (R21), and the PURGING ring
becomes OFF with its last sector (R153). -/
def purgedAway (s : State) (r : RingNo) (i : SectorNo) : State :=
  let x := s.record r i
  if 2 ≤ x.pending then withRecord s r i { x with pending := x.pending - 1 }
  else
    let t := withRecord s r i { x with state := .free, pending := 0 }
    if (s.ring r).lifecycle = .purging ∧ ∀ j, j ≠ i → (s.record r j).state = .free then turnedOff t r .purged
    else t

/-- The retirements between two states (R90): while the head is not in flight and is a FILL or CLOSE entry of
a PURGING sector, it leaves the queue: its sector's pending count and the blocking counts fall, and neither
WRITE_LOST, WRITE_ERROR nor the writes-lost counter is touched (R23). -/
inductive Retired : State → State → Prop where
  | stop (s : State) (h : s.headIssue = .inFlight ∨ ¬ retires s s.pwq) : Retired s s
  | retire (s t : State) (e : QueueEntry) (q : List QueueEntry) (r : RingNo) (i : SectorNo)
      (waits : s.headIssue ≠ .inFlight) (head : s.pwq = e :: q) (kind : e.kind = .fill r i ∨ e.kind = .close r i)
      (purged : (s.record r i).state = .purging) (rest : Retired (purgedAway (headless s q) r i) t) : Retired s t

/-- A command brings the part to a state, and to the retirements that follow from it (R86, R90). -/
def Reaches (c : Instr) (s t : State) : Prop := ∃ u, Retired t u ∧ exec c s = .next u

/-- The raised attempt count of an owner answered BUSY has reached a non-zero attempt budget (R121). -/
def spent (s : State) (attempts : BitVec 16) : Prop :=
  s.link.budget ≠ 0 ∧ s.link.budget.toNat ≤ (satSucc attempts).toNat

/-- A response ends the write of the head e: OKAY, ERROR, or BUSY at the budget, with the loss of the write and
the flags and counters of the response (R87, R88, R89). -/
def endsHead (s : State) (e : QueueEntry) (c : Instr) (lost : Bool) (v : EventUnit) : Prop :=
  ((∃ data, c = .okayResponse 0 data) ∧ lost = false ∧ v = s.events) ∨
    ((∃ kind, c = .errorResponse 0 kind) ∧ lost = true ∧
      v = { s.events with
        flags := s.events.flags ||| 0x03
        counters := { s.events.counters with writesLost := satSucc s.events.counters.writesLost } }) ∨
    (c = .busyResponse 0 ∧ spent s e.attempts ∧ lost = true ∧
      v = { s.events with
        flags := s.events.flags ||| 0x01
        counters := { s.events.counters with
          writesLost := satSucc s.events.counters.writesLost
          busyResponses := satSucc s.events.counters.busyResponses } })

/-! ### Closes without a trigger -/

/-- The record of a FILLING sector after a close without its trigger, but for its state: a length derived from
high-water, the close time, and the flags given (R15, R16). -/
def cutShort (s : State) (r : RingNo) (i : SectorNo) (flags : SectorFlags) : SectorRecord :=
  { s.record r i with
    flags := flags
    length := if (s.cfg r).modes &&& 3 = 0 then (s.record r i).highWater - 8 else (s.record r i).highWater
    closeTime := s.timestamp }

/-- A sector whose record is x closes without a trigger: CLOSING, or READY at once where no write of it is
queued (R15 to R17). -/
def closedShort (s : State) (r : RingNo) (i : SectorNo) (x : SectorRecord) : State :=
  if x.pending = 0 then delivered s r i x else withRecord s r i { x with state := .closing }

/-- A shadow of a ring has ended, its runtime record being x: a STOPPING ring with every sector FREE becomes
OFF (R46, R49, R51, R151). -/
def shadowEnded (s : State) (r : RingNo) (x : RingState) : State :=
  if x.lifecycle = .stopping ∧ ∀ j, (s.record r j).state = .free then turnedOff (withRing s r x) r .ringOff
  else withRing s r x

/-- What an assertion of LRSTn does to one ring (R51): nothing to one that does not serve requests. -/
def aborted (s : State) (r : RingNo) : State :=
  if (s.ring r).lifecycle = .active ∨ (s.ring r).lifecycle = .stopping then
    match (s.ring r).fillState with
    | .idle => s
    | .opened =>
      closedShort (withRing s r (closedRing s r (s.ring r))) r (s.ring r).fillPointer
        (cutShort s r (s.ring r).fillPointer
          { (s.record r (s.ring r).fillPointer).flags with aborted := true })
    | .shadow => shadowEnded s r (closedRing s r (s.ring r))
  else s

/-! ### The register window (12_formats section 12.4) -/

/-- The Access column: read; write one to clear; read and write; write while the ring is OFF; write while the
notice queue is disabled. -/
inductive Access where
  | readOnly
  | clearByOnes
  | writable
  | whileOff (r : RingNo)
  | whileDisabled

/-- One row of the register window: its offset, its bytes, its field, its access and the value it reads. -/
structure WindowRow where
  offset : Nat
  bytes : Nat
  field : Field
  access : Access
  value : Nat

/-- The codes of the sector states. -/
def sectorCode : SectorState → Nat
  | .free => 0
  | .filling => 1
  | .closing => 2
  | .ready => 3
  | .releasing => 4
  | .purging => 5

/-- The codes of the lifecycle states. -/
def lifecycleCode : Lifecycle → Nat
  | .off => 0
  | .active => 1
  | .stopping => 2
  | .purging => 3

/-- The codes of the fill states. -/
def fillCode : FillState → Nat
  | .idle => 0
  | .opened => 1
  | .shadow => 2

/-- The result and reason bytes of the command result. -/
def verdictCode : Verdict → Nat
  | .none => 0
  | .done => 1
  | .refused .badConfig => 2 + 256 * 1
  | .refused .overlap => 2 + 256 * 2
  | .refused .state => 2 + 256 * 3
  | .refused .noRing => 2 + 256 * 4

/-- The rows from 0x0000 to 0x002E. -/
def controlRows (s : State) : List WindowRow := [
  ⟨0x0000, 1, .status, .readOnly,
    s.port.configLocked.toNat + 2 * s.lrstn.toNat + 4 * s.ntfy.toNat + 8 * s.alrt.toNat⟩,
  ⟨0x0001, 1, .queueOccupancy, .readOnly, s.pwq.length⟩,
  ⟨0x0002, 1, .readOccupancy, .readOnly, s.reads.length⟩,
  ⟨0x0003, 1, .noticeOccupancy, .readOnly, s.notices.fifo.length⟩,
  ⟨0x0004, 4, .timestamp, .readOnly, s.timestamp.toNat⟩,
  ⟨0x0008, 2, .discardTime, .writable, s.discardTime.toNat⟩,
  ⟨0x000A, 2, .attemptBudget, .writable, s.link.budget.toNat⟩,
  ⟨0x000C, 1, .backoff, .writable, s.link.backoff.toNat⟩,
  ⟨0x0010, 2, .command, .writable, 0⟩,
  ⟨0x0014, 4, .commandResult, .readOnly,
    s.port.result.ring.toNat + 256 * s.port.result.code.toNat + 65536 * verdictCode s.port.result.verdict⟩,
  ⟨0x0018, 1, .eventLow, .clearByOnes, s.events.flags.toNat % 256⟩,
  ⟨0x0019, 1, .eventHigh, .clearByOnes, s.events.flags.toNat / 256⟩,
  ⟨0x001A, 1, .maskLow, .writable, s.events.masks.toNat % 256⟩,
  ⟨0x001B, 1, .maskHigh, .writable, s.events.masks.toNat / 256⟩,
  ⟨0x0020, 4, .noticeBase, .whileDisabled, s.notices.base.toNat⟩,
  ⟨0x0024, 4, .returnAddress, .whileDisabled, s.notices.returnAddress.toNat⟩,
  ⟨0x0028, 1, .slotCode, .whileDisabled, s.notices.slotCode.toNat⟩,
  ⟨0x0029, 1, .noticeEnable, .readOnly, s.notices.enabled.toNat⟩,
  ⟨0x002A, 2, .indexW, .readOnly, s.notices.w.toNat⟩,
  ⟨0x002C, 2, .indexWd, .readOnly, s.notices.wd.toNat⟩,
  ⟨0x002E, 2, .indexR, .readOnly, s.notices.r.toNat⟩]

/-- The rows from 0x0040 to 0x009C. -/
def counterRows (s : State) : List WindowRow := [
  ⟨0x0040, 4, .writesAccepted, .readOnly, s.events.counters.writesAccepted.toNat⟩,
  ⟨0x0044, 4, .writesLost, .readOnly, s.events.counters.writesLost.toNat⟩,
  ⟨0x0048, 4, .readsAnswered, .readOnly, s.events.counters.readsAnswered.toNat⟩,
  ⟨0x004C, 4, .readsExpired, .readOnly, s.events.counters.readsExpired.toNat⟩,
  ⟨0x0050, 4, .busyResponses, .readOnly, s.events.counters.busyResponses.toNat⟩,
  ⟨0x0054, 4, .noticesWritten, .readOnly, s.events.counters.noticesWritten.toNat⟩,
  ⟨0x0058, 4, .noticesOverrun, .readOnly, s.events.counters.noticesOverrun.toNat⟩,
  ⟨0x005C, 4, .queueFull, .readOnly, s.events.counters.queueFull.toNat⟩,
  ⟨0x0090, 1, .inspectSelect, .writable, s.port.inspectSelect.toNat⟩,
  ⟨0x0091, 1, .snapState, .readOnly, sectorCode s.port.snapshot.state⟩,
  ⟨0x0092, 1, .snapPending, .readOnly, s.port.snapshot.pending⟩,
  ⟨0x0093, 1, .snapFlags, .readOnly,
    s.port.snapshot.flags.timedOut.toNat + 2 * s.port.snapshot.flags.aborted.toNat +
      4 * s.port.snapshot.flags.writeError.toNat + 8 * s.port.snapshot.flags.trailingDrop.toNat⟩,
  ⟨0x0094, 2, .snapSeq, .readOnly, s.port.snapshot.seq.toNat⟩,
  ⟨0x0096, 2, .snapHighWater, .readOnly, s.port.snapshot.highWater⟩,
  ⟨0x0098, 2, .snapLength, .readOnly, s.port.snapshot.length⟩,
  ⟨0x009C, 4, .snapCloseTime, .readOnly, s.port.snapshot.closeTime.toNat⟩]

/-- The counter of the fault reason whose code is k + 1. -/
def faultRow (s : State) (k : Fin 10) : WindowRow :=
  ⟨0x0060 + 4 * k.val, 4, .fault k, .readOnly, s.events.counters.faults[k].toNat⟩

/-- The block of a ring. -/
def ringRows (s : State) (r : RingNo) : List WindowRow :=
  let b := 0x0200 + 64 * r.val
  [ ⟨b + 0x00, 4, .ring r .base, .whileOff r, (s.cfg r).base.toNat⟩,
    ⟨b + 0x04, 1, .ring r .sizeCode, .whileOff r, (s.cfg r).sizeCode.toNat⟩,
    ⟨b + 0x05, 1, .ring r .sectorCount, .whileOff r, (s.cfg r).sectorCount.toNat⟩,
    ⟨b + 0x06, 1, .ring r .producer, .whileOff r, (s.cfg r).producer.toNat⟩,
    ⟨b + 0x07, 1, .ring r .consumer, .whileOff r, (s.cfg r).consumer.toNat⟩,
    ⟨b + 0x08, 2, .ring r .monitors, .whileOff r, (s.cfg r).monitors.toNat⟩,
    ⟨b + 0x0A, 1, .ring r .modes, .whileOff r, (s.cfg r).modes.toNat⟩,
    ⟨b + 0x0C, 2, .ring r .fillTimeout, .whileOff r, (s.cfg r).fillTimeout.toNat⟩,
    ⟨b + 0x10, 8, .ring r .marker, .whileOff r, (s.cfg r).marker.toNat⟩,
    ⟨b + 0x18, 1, .ring r .lifecycle, .readOnly, lifecycleCode (s.ring r).lifecycle⟩,
    ⟨b + 0x19, 1, .ring r .fillPointer, .readOnly, (s.ring r).fillPointer.val⟩,
    ⟨b + 0x1A, 1, .ring r .fillState, .readOnly, fillCode (s.ring r).fillState⟩,
    ⟨b + 0x1B, 1, .ring r .noticeGap, .readOnly, (s.ring r).noticeGap.toNat⟩,
    ⟨b + 0x1C, 2, .ring r .nextSeq, .readOnly, (s.ring r).nextSeq.toNat⟩,
    ⟨b + 0x1E, 2, .ring r .lostCount, .readOnly, (s.ring r).lostCount.toNat⟩,
    ⟨b + 0x20, 4, .ring r .delivered, .readOnly, (s.ring r).counters.delivered.toNat⟩,
    ⟨b + 0x24, 4, .ring r .lost, .readOnly, (s.ring r).counters.lost.toNat⟩,
    ⟨b + 0x28, 4, .ring r .fillTimeouts, .readOnly, (s.ring r).counters.fillTimeouts.toNat⟩,
    ⟨b + 0x2C, 4, .ring r .stalls, .readOnly, (s.ring r).counters.stalls.toNat⟩,
    ⟨b + 0x30, 4, .ring r .producerFaults, .readOnly, (s.ring r).counters.producerFaults.toNat⟩,
    ⟨b + 0x34, 4, .ring r .consumerFaults, .readOnly, (s.ring r).counters.consumerFaults.toNat⟩]

/-- A row of the register window (12_formats section 12.4). -/
def isRow (s : State) (x : WindowRow) : Prop :=
  x ∈ controlRows s ∨ x ∈ counterRows s ∨ (∃ k, x = faultRow s k) ∨ ∃ r, x ∈ ringRows s r

/-- The byte at an offset is a byte of a row. -/
def WindowRow.holds (x : WindowRow) (o : Nat) : Prop := x.offset ≤ o ∧ o < x.offset + x.bytes

/-- A byte of the row is locked: a configuration field of a ring that is not OFF, or of the notice queue while
it is enabled (R149). -/
def WindowRow.isLocked (x : WindowRow) (s : State) : Prop :=
  (∃ r, x.access = .whileOff r ∧ (s.ring r).lifecycle ≠ .off) ∨
    (x.access = .whileDisabled ∧ s.notices.enabled = true)

/-- A byte of the row may be written now (R149, R177). -/
def WindowRow.isOpen (x : WindowRow) (s : State) : Prop :=
  x.access = .writable ∨ (∃ r, x.access = .whileOff r ∧ (s.ring r).lifecycle = .off) ∨
    (x.access = .whileDisabled ∧ s.notices.enabled = false)

/-- The bytes of a field written since its staging began: none where the staging register is empty or holds
another field, whose bytes are discarded (R177). -/
def stagedFor (s : State) (f : Field) (bytes : Vector (Option Byte) 8) : Prop :=
  s.port.staging = some { field := f, bytes := bytes } ∨
    (bytes = Vector.replicate 8 none ∧ ∀ y, s.port.staging ≠ some { field := f, bytes := y })

/-- A configuration field of a ring takes a value in its own width; the IDs take bits 3:0 (R186). -/
def configWith (c : RingConfig) (f : RingField) (v : BitVec 64) : RingConfig :=
  match f with
  | .base => { c with base := v.setWidth 32 }
  | .sizeCode => { c with sizeCode := v.setWidth 8 }
  | .sectorCount => { c with sectorCount := v.setWidth 8 }
  | .producer => { c with producer := v.setWidth 4 }
  | .consumer => { c with consumer := v.setWidth 4 }
  | .monitors => { c with monitors := v.setWidth 16 }
  | .modes => { c with modes := v.setWidth 8 }
  | .fillTimeout => { c with fillTimeout := v.setWidth 16 }
  | .marker => { c with marker := v }
  | _ => c

/-- A writable field takes a value in its own width; a discard time of 0 or from 4096 on is not taken (R107,
R177). -/
def fieldWith (s : State) (f : Field) (v : BitVec 64) : State :=
  match f with
  | .discardTime =>
    if 1 ≤ v.toNat % 65536 ∧ v.toNat % 65536 ≤ 4095 then { s with discardTime := v.setWidth 16 } else s
  | .attemptBudget => { s with link := { s.link with budget := v.setWidth 16 } }
  | .backoff => { s with link := { s.link with backoff := v.setWidth 8 } }
  | .noticeBase => { s with notices := { s.notices with base := v.setWidth 32 } }
  | .returnAddress => { s with notices := { s.notices with returnAddress := v.setWidth 32 } }
  | .slotCode => { s with notices := { s.notices with slotCode := v.setWidth 8 } }
  | .ring r x => { s with config := s.config.set r (configWith (s.cfg r) x v) }
  | _ => s

end Sys2Proof.Safety
end

