-- ==== Sys2Proof/WellFormed.lean ====
section
/-! DEFINITION. Which commands the links and the port can present: the ranges that the operand types
do not already hold. -/

namespace Sys2Proof

/-- The eight command codes of 12_formats section 12.4. -/
def commandCodes : List Byte := [0x01, 0x02, 0x03, 0x10, 0x11, 0x12, 0x13, 0x1F]

/-- A WRITE carries 1 to 8 words (R157); an OKAY response carries one word for each of the at most 8
words requested (R112); UNKNOWN_COMMAND is a code that is not one of the eight commands (R145). -/
def Instr.wellFormed : Instr → Bool
  | .writeArrival request => decide (request.rest.length ≤ 7)
  | .okayResponse _ data => decide (data.length ≤ 8)
  | .unknownCommand code _ => decide (code ∉ commandCodes)
  | .readArrival _ => true
  | .grant => true
  | .busyResponse _ => true
  | .errorResponse _ _ => true
  | .backoffExpiry _ => true
  | .fillTimerExpiry _ => true
  | .discardTimerExpiry _ => true
  | .lrstnAsserted => true
  | .lrstnNegated => true
  | .porstnAsserted => true
  | .porstnNegated _ => true
  | .enable _ => true
  | .stop _ => true
  | .purge _ => true
  | .flushReads _ => true
  | .clearCounters _ => true
  | .noticeEnable _ => true
  | .noticeDisable _ => true
  | .datapathReset _ => true
  | .deviceAddress _ _ => true
  | .offset _ _ => true
  | .busStop _ => true
  | .registerWrite _ => true
  | .eventRegisterWrite _ _ => true
  | .maskWrite _ _ => true
  | .inspectionSelect _ => true
  | .snapshotRead _ => true
  | .statusByteRead _ => true
  | .tick => true

end Sys2Proof
end

