-- ==== Sys2Proof/Certificates/Slice0/Obligations.lean ====
section
/-! DEFINITION. The statements about the part, in the order of OBLIGATIONS.json. -/

open Sys2Proof Sys2Proof.Machine Sys2Proof.Safety

/-! ### The step -/

/-- A step takes the command at the front of the queue and runs it with the queue's rest; on an empty queue
the part idles. The queue of waiting commands and the idle step are the model's choice (log entry 1). -/
def Obligations.StepTakesTheFrontCommand : Prop :=
  (∀ (c : Instr) (s : State), step { s with pending := c :: s.pending } = exec c s) ∧
    ∀ s : State, s.pending = [] → step s = .next s

/-- Every command answers a next state in every state. That there is a queue of waiting commands, and that a
command leaves it alone, is the model's choice (log entry 1). -/
def Obligations.EveryCommandCompletes : Prop :=
  ∀ (c : Instr) (s : State), ∃ t, exec c s = .next t ∧ t.pending = s.pending

/-! ### The Window Decoder -/

/-- The class of an aligned request, with its position and role: RING in the window that holds its bytes, and
otherwise NOTICE-RETURN or PASS (R4, R5, R6). -/
def Obligations.DecoderClassifiesRequests : Prop :=
  ∀ (s : State) (a : Addr) (n : Nat) (i : InitiatorId), Consistent s → WindowsApart s →
    a.toNat % 8 = 0 → a.toNat % 64 + 8 * n ≤ 64 → 1 ≤ n →
    (∀ r d, s.window r = some d → (∃ b, a.toNat ≤ b ∧ b < a.toNat + 8 * n ∧ inWindow d b) →
      ∃ x : SectorNo, x.val = (a.toNat - d.base.toNat) / d.sectorSize ∧ x.val < d.sectorCount ∧
        s.classify a n i = .ring r x ((a.toNat - d.base.toNat) % d.sectorSize / 8)
          (if i = d.producer then .producer else if i = d.consumer then .consumer
            else if d.monitors.getLsbD i.toNat then .monitor else .other)) ∧
    ((∀ r d b, s.window r = some d → a.toNat ≤ b → b < a.toNat + 8 * n → ¬ inWindow d b) →
      ((s.notices.enabled = true ∧ ∃ k, k < n ∧ a.toNat + 8 * k = s.notices.returnAddress.toNat) →
        s.classify a n i = .noticeReturn) ∧
      (¬ (s.notices.enabled = true ∧ ∃ k, k < n ∧ a.toNat + 8 * k = s.notices.returnAddress.toNat) →
        s.classify a n i = .pass))

/-! ### Writes -/

/-- A request that is not word-aligned or that crosses a line is answered FAULT ALIGN, counted under ALIGN
alone (R158). -/
def Obligations.MisalignedRequestsFault : Prop :=
  ∀ s : State, s.lrstn = false →
    (∀ q : WriteRequest,
      ¬ (q.address.toNat % 8 = 0 ∧ q.address.toNat % 64 + 8 * (q.rest.length + 1) ≤ 64) →
      exec (.writeArrival q) s = .next { s with
        hostResponse := some (.fault .align)
        events := { s.events with counters := { s.events.counters with
          faults := s.events.counters.faults.set 1 (satSucc s.events.counters.faults[1]) } } }) ∧
    (∀ k : ReadRequest,
      ¬ (k.address.toNat % 8 = 0 ∧ k.address.toNat % 64 + 8 * (k.countCode.toNat + 1) ≤ 64) →
      exec (.readArrival k) s = .next { s with
        hostResponse := some (.fault .align)
        events := { s.events with counters := { s.events.counters with
          faults := s.events.counters.faults.set 1 (satSucc s.events.counters.faults[1]) } } })

/-- A PASS write that finds room joins the tail and is answered ACCEPT; each read entry of its line counts it,
becomes stale or is counted afresh, by its state (R77, R80, R99, R161). -/
def Obligations.PassWriteJoinsTheQueue : Prop :=
  ∀ (s : State) (q : WriteRequest) (e : QueueEntry),
    e = { address := q.address, words := q.first :: q.rest, kind := .pass, attempts := 0 } →
    writeOf s q .pass → s.pwq.length < 32 →
    exec (.writeArrival q) s = .next { accepted s with
      pwq := s.pwq ++ [e]
      headIssue := if s.pwq = [] then .waiting else s.headIssue
      reads := s.reads.map fun x =>
        if lineOf x.request.address = lineOf q.address then
          match x.phase with
          | .queued _ => { x with counted := x.counted ++ [s.pwq.length] }
          | .issued _ => { x with phase := .issued true }
          | .complete _ _ => { x with
              phase := .queued none
              attempts := 0
              counted := lineHits (lineOf x.request.address) (s.pwq ++ [e]) }
        else x }

/-- A NOTICE-RETURN write joins the queue as a PASS write; its full-mask word at the return index address moves
R where it is no further from R than Wd is, and sets NOTICE_INDEX_BAD otherwise; a partial-mask word is not
snooped (R81, R82, R140). -/
def Obligations.ReturnWriteIsSnooped : Prop :=
  ∀ (s : State) (q : WriteRequest) (k : Nat) (x : WriteWord) (e : QueueEntry) (v : BitVec 16),
    e = { address := q.address, words := q.first :: q.rest, kind := .pass, attempts := 0 } →
    writeOf s q .noticeReturn → s.pwq.length < 32 →
    (q.first :: q.rest)[k]? = some x → q.address.toNat + 8 * k = s.notices.returnAddress.toNat →
    v = x.data.setWidth 16 →
    (x.mask = 0xFF → (v - s.notices.r).toNat ≤ (s.notices.wd - s.notices.r).toNat →
      exec (.writeArrival q) s =
        .next (({ accepted s with notices := { s.notices with r := v } } : State).enqueue e)) ∧
    (x.mask = 0xFF → (s.notices.wd - s.notices.r).toNat < (v - s.notices.r).toNat →
      exec (.writeArrival q) s =
        .next (({ accepted s with events := { (accepted s).events with
          flags := s.events.flags ||| 0x20 } } : State).enqueue e)) ∧
    (x.mask ≠ 0xFF → exec (.writeArrival q) s = .next ((accepted s).enqueue e))

/-- A write that is to be queued and finds 32 entries is answered RETRY and counted as full, and leaves no other
trace (R12, R18, R36, R77). -/
def Obligations.FullQueueAnswersRetry : Prop :=
  ∀ (s : State) (q : WriteRequest), 32 ≤ s.pwq.length →
    (writeOf s q .pass ∨ writeOf s q .noticeReturn ∨
      (∃ r i w, writeOf s q (.ring r i w .producer) ∧ serves s r ∧ i = (s.ring r).fillPointer ∧
        passesHeaderChecks (s.cfg r) w q ∧
        ((s.ring r).fillState = .opened ∨
          ((s.ring r).fillState = .idle ∧ (s.ring r).lifecycle = .active ∧ (s.record r i).state = .free))) ∨
      (∃ r i, writeOf s q (.ring r i 0 .consumer) ∧ serves s r ∧ q.rest = [] ∧ q.first.mask = 0xFF ∧
        (s.record r i).state = .ready)) →
    exec (.writeArrival q) s = .next { s with
      hostResponse := some .retry
      events := { s.events with counters := { s.events.counters with
        queueFull := satSucc s.events.counters.queueFull } } }

/-- A producer write that is no close trigger is queued as FILL: into the open message, or opening a FREE sector
at the fill pointer with the next sequence number; the fill timer starts with the full interval (R12, R13, R35,
R36, R48). -/
def Obligations.OrdinaryWriteIsStored : Prop :=
  ∀ (s : State) (q : WriteRequest) (r : RingNo) (w : Nat) (i : SectorNo) (e : QueueEntry),
    e = { address := q.address, words := q.first :: q.rest, kind := .fill r i, attempts := 0 } →
    writeOf s q (.ring r i w .producer) → i = (s.ring r).fillPointer → serves s r →
    ordinary (s.cfg r) w q → s.pwq.length < 32 →
    ((s.ring r).fillState = .opened →
      exec (.writeArrival q) s = .next ((accepted (withRing
        (withRecord s r i { s.record r i with
          pending := (s.record r i).pending + 1
          highWater := max (s.record r i).highWater (8 * (w + (q.rest.length + 1))) })
        r { s.ring r with fillTimer := restarted (s.cfg r).fillTimeout (s.ring r).fillTimer })).enqueue e)) ∧
    ((s.ring r).fillState = .idle → (s.ring r).lifecycle = .active → (s.record r i).state = .free →
      exec (.writeArrival q) s = .next ((accepted (withRing
        (withRecord s r i {
          state := .filling
          seq := (s.ring r).nextSeq
          pending := (s.record r i).pending + 1
          highWater := 8 * (w + (q.rest.length + 1))
          length := 0
          flags := {}
          closeTime := 0 })
        r { s.ring r with
          fillState := .opened
          nextSeq := (s.ring r).nextSeq + 1
          fillTimer := restarted (s.cfg r).fillTimeout (s.ring r).fillTimer })).enqueue e))

/-- A complete header closes the message at its acceptance: CLOSE entry, sector CLOSING with the header's length,
fill pointer advanced, fill state IDLE, fill timer stopped; also where it opens the message (R14, R35, R40). -/
def Obligations.HeaderCloseEndsTheMessage : Prop :=
  ∀ (s : State) (q : WriteRequest) (r : RingNo) (w : Nat) (i : SectorNo) (e : QueueEntry),
    e = { address := q.address, words := q.first :: q.rest, kind := .close r i, attempts := 0 } →
    writeOf s q (.ring r i w .producer) → i = (s.ring r).fillPointer → serves s r →
    completeHeader (s.cfg r) w q → s.pwq.length < 32 →
    ((s.ring r).fillState = .opened →
      exec (.writeArrival q) s = .next ((accepted (withRing
        (withRecord s r i { s.record r i with
          state := .closing
          pending := (s.record r i).pending + 1
          highWater := max (s.record r i).highWater (8 * (q.rest.length + 1))
          length := (q.first.data.setWidth 16).toNat
          closeTime := s.timestamp })
        r (closedRing s r (s.ring r)))).enqueue e)) ∧
    ((s.ring r).fillState = .idle → (s.ring r).lifecycle = .active → (s.record r i).state = .free →
      exec (.writeArrival q) s = .next ((accepted (withRing
        (withRecord s r i {
          state := .closing
          seq := (s.ring r).nextSeq
          pending := (s.record r i).pending + 1
          highWater := 8 * (q.rest.length + 1)
          length := (q.first.data.setWidth 16).toNat
          flags := {}
          closeTime := s.timestamp })
        r (closedRing s r { s.ring r with nextSeq := (s.ring r).nextSeq + 1 }))).enqueue e))

/-- A marker word closes the message: the words after it join the queue with their masks cleared and set
TRAILING_DROP, and the length and the high-water end at the marker (R14, R41, R42, R43). -/
def Obligations.MarkerCloseDropsTrailingWords : Prop :=
  ∀ (s : State) (q : WriteRequest) (r : RingNo) (w : Nat) (i : SectorNo) (e : QueueEntry)
    (before after : List WriteWord) (m : WriteWord),
    e = { address := q.address, words := before ++ m :: after.map (fun x => { x with mask := 0 }),
          kind := .close r i, attempts := 0 } →
    writeOf s q (.ring r i w .producer) → i = (s.ring r).fillPointer → serves s r →
    markedWords (s.cfg r) q before m after → s.pwq.length < 32 →
    ((s.ring r).fillState = .opened →
      exec (.writeArrival q) s = .next ((accepted (withRing
        (withRecord s r i { s.record r i with
          state := .closing
          pending := (s.record r i).pending + 1
          highWater := max (s.record r i).highWater (8 * (w + before.length + 1))
          length := 8 * (w + before.length)
          flags := { (s.record r i).flags with
            trailingDrop := (s.record r i).flags.trailingDrop || !after.isEmpty }
          closeTime := s.timestamp })
        r (closedRing s r (s.ring r)))).enqueue e)) ∧
    ((s.ring r).fillState = .idle → (s.ring r).lifecycle = .active → (s.record r i).state = .free →
      exec (.writeArrival q) s = .next ((accepted (withRing
        (withRecord s r i {
          state := .closing
          seq := (s.ring r).nextSeq
          pending := (s.record r i).pending + 1
          highWater := 8 * (w + before.length + 1)
          length := 8 * (w + before.length)
          flags := { trailingDrop := !after.isEmpty }
          closeTime := s.timestamp })
        r (closedRing s r { s.ring r with nextSeq := (s.ring r).nextSeq + 1 }))).enqueue e))

/-- A producer write to a sector F that is not FREE is stalled under BACKPRESSURE; under DISCARD it begins a
shadow, which takes a sequence number, is counted as lost, drops its writes and ends at a close trigger, after
which a STOPPING ring with every sector FREE becomes OFF (R44, R45, R46, R151). -/
def Obligations.FullSectorStallsOrShadows : Prop :=
  ∀ (s : State) (q : WriteRequest) (r : RingNo) (w : Nat) (i : SectorNo),
    writeOf s q (.ring r i w .producer) → i = (s.ring r).fillPointer →
    ((s.ring r).lifecycle = .active → (s.ring r).fillState = .idle → (s.record r i).state ≠ .free →
      (s.cfg r).modes &&& 12 = 0 → passesHeaderChecks (s.cfg r) w q →
      exec (.writeArrival q) s = .next { withRing s r { s.ring r with counters := { (s.ring r).counters with
        stalls := satSucc (s.ring r).counters.stalls } } with hostResponse := some .retry }) ∧
    ((s.ring r).lifecycle = .active → (s.ring r).fillState = .idle → (s.record r i).state ≠ .free →
      (s.cfg r).modes &&& 12 = 4 →
      (ordinary (s.cfg r) w q →
        exec (.writeArrival q) s = .next (accepted (withRing s r { s.ring r with
          fillState := .shadow
          nextSeq := (s.ring r).nextSeq + 1
          lostCount := satSucc (s.ring r).lostCount
          fillTimer := restarted (s.cfg r).fillTimeout (s.ring r).fillTimer
          counters := { (s.ring r).counters with lost := satSucc (s.ring r).counters.lost } }))) ∧
      ((completeHeader (s.cfg r) w q ∨ ∃ before m after, markedWords (s.cfg r) q before m after) →
        exec (.writeArrival q) s = .next (accepted (withRing s r (closedRing s r { s.ring r with
          nextSeq := (s.ring r).nextSeq + 1
          lostCount := satSucc (s.ring r).lostCount
          counters := { (s.ring r).counters with lost := satSucc (s.ring r).counters.lost } }))))) ∧
    ((s.ring r).fillState = .shadow →
      (serves s r → ordinary (s.cfg r) w q →
        exec (.writeArrival q) s = .next (accepted (withRing s r { s.ring r with
          fillTimer := restarted (s.cfg r).fillTimeout (s.ring r).fillTimer }))) ∧
      (serves s r →
        (completeHeader (s.cfg r) w q ∨ ∃ before m after, markedWords (s.cfg r) q before m after) →
        (((s.ring r).lifecycle = .active ∨ ∃ j, (s.record r j).state ≠ .free) →
          exec (.writeArrival q) s = .next (accepted (withRing s r (closedRing s r (s.ring r))))) ∧
        ((s.ring r).lifecycle = .stopping → (∀ j, (s.record r j).state = .free) →
          exec (.writeArrival q) s =
            .next (accepted (turnedOff (withRing s r (closedRing s r (s.ring r))) r .ringOff)))))

/-- The refusals of a producer write, in their order: ORDER, RING_OFF in a STOPPING ring that is IDLE,
HEADER_PARTIAL and LENGTH; each is counted, in the ring too, and changes nothing else (R32, R33, R34, R38,
R39). -/
def Obligations.ProducerWriteFaults : Prop :=
  ∀ (s : State) (q : WriteRequest) (r : RingNo) (w : Nat) (i : SectorNo),
    writeOf s q (.ring r i w .producer) → serves s r →
    (i ≠ (s.ring r).fillPointer →
      exec (.writeArrival q) s = .next (faulted (producerFaulted s r) .order)) ∧
    (i = (s.ring r).fillPointer → (s.ring r).lifecycle = .stopping → (s.ring r).fillState = .idle →
      exec (.writeArrival q) s = .next (faulted (producerFaulted s r) .ringOff)) ∧
    (i = (s.ring r).fillPointer → ((s.ring r).lifecycle = .active ∨ (s.ring r).fillState ≠ .idle) →
      (s.cfg r).modes &&& 3 = 0 → w = 0 →
      (q.first.mask ≠ 0xFF →
        exec (.writeArrival q) s = .next (faulted (producerFaulted s r) .headerPartial)) ∧
      (q.first.mask = 0xFF → q.first.data.getLsbD 16 = true →
        (s.cfg r).sectorSize - 8 < (q.first.data.setWidth 16).toNat →
        exec (.writeArrival q) s = .next (faulted (producerFaulted s r) .length)))

/-- A release of a READY sector frees the reads whose address lies in the sector and joins the queue as RELEASE;
the sector becomes RELEASING and keeps its other fields (R18, R63, R64). -/
def Obligations.ReleaseOfReadySector : Prop :=
  ∀ (s : State) (q : WriteRequest) (r : RingNo) (i : SectorNo) (d : DecodeEntry),
    writeOf s q (.ring r i 0 .consumer) → serves s r → s.window r = some d → q.rest = [] →
    q.first.mask = 0xFF → (s.record r i).state = .ready → s.pwq.length < 32 →
    exec (.writeArrival q) s = .next ((accepted (freed
      (withRecord s r i { s.record r i with
        state := .releasing
        pending := (s.record r i).pending + 1 })
      fun e => decide (d.base.toNat + i.val * d.sectorSize ≤ e.request.address.toNat ∧
        e.request.address.toNat < d.base.toNat + (i.val + 1) * d.sectorSize))).enqueue
      { address := q.address, words := [q.first], kind := .release r i, attempts := 0 })

/-- The refusals of releases and of requests by role: RELEASE_STATE for a sector that is not READY; ROLE for a
consumer write of another shape, a monitor write and every request of another initiator (R25, R62, R66). -/
def Obligations.ReleaseAndRoleFaults : Prop :=
  (∀ (s : State) (q : WriteRequest) (r : RingNo) (w : Nat) (i : SectorNo), serves s r →
    (writeOf s q (.ring r i w .consumer) →
      (w = 0 ∧ q.rest = [] ∧ q.first.mask = 0xFF → (s.record r i).state ≠ .ready →
        exec (.writeArrival q) s = .next (faulted (consumerFaulted s r) .releaseState)) ∧
      (¬ (w = 0 ∧ q.rest = [] ∧ q.first.mask = 0xFF) →
        exec (.writeArrival q) s = .next (faulted (consumerFaulted s r) .role))) ∧
    (writeOf s q (.ring r i w .monitor) →
      exec (.writeArrival q) s = .next (faulted (consumerFaulted s r) .role)) ∧
    (writeOf s q (.ring r i w .other) → exec (.writeArrival q) s = .next (faulted s .role))) ∧
  ∀ (s : State) (k : ReadRequest) (r : RingNo) (w : Nat) (i : SectorNo), serves s r →
    readOf s k (.ring r i w .other) → exec (.readArrival k) s = .next (faulted s .role)

/-- A PURGING ring answers every request FAULT RING_OFF, reads and writes of every role, counted by role (R25,
R27, R163). -/
def Obligations.PurgingRingRefusesRequests : Prop :=
  ∀ (s t : State) (r : RingNo) (w : Nat) (i : SectorNo) (role : Role), (s.ring r).lifecycle = .purging →
    t = (match role with
      | .producer => producerFaulted s r
      | .consumer => consumerFaulted s r
      | .monitor => consumerFaulted s r
      | .other => s) →
    (∀ q, writeOf s q (.ring r i w role) → exec (.writeArrival q) s = .next (faulted t .ringOff)) ∧
    (∀ k, readOf s k (.ring r i w role) → exec (.readArrival k) s = .next (faulted t .ringOff))

/-! ### Reads -/

/-- A read that reaches the table with no entry of its own is answered RETRY, and creates a QUEUED entry counted
against the queue where the table and the initiator have a place (R95, R96). -/
def Obligations.ReadTakesAPlace : Prop :=
  ∀ (s : State) (k : ReadRequest),
    (readOf s k .pass ∨ readOf s k .noticeReturn ∨
      ∃ r i w, readOf s k (.ring r i w .producer) ∧ serves s r) →
    (∀ e ∈ s.reads, e.request ≠ k) →
    (s.reads.length < 8 → s.reads.countP (fun e => decide (e.request.initiator = k.initiator)) < 2 →
      exec (.readArrival k) s = .next { s with
        hostResponse := some .retry
        reads := s.reads ++ [{
          request := k
          tag := none
          phase := .queued none
          attempts := 0
          counted := lineHits (lineOf k.address) s.pwq }] }) ∧
    (8 ≤ s.reads.length ∨ 2 ≤ s.reads.countP (fun e => decide (e.request.initiator = k.initiator)) →
      exec (.readArrival k) s = .next { s with hostResponse := some .retry })

/-- The repeat of a read is answered by its entry: RETRY while QUEUED or ISSUED, and the result once COMPLETE,
which frees the entry; a fault is counted in the ring where the repeat is of class RING (R60, R95, R106). -/
def Obligations.CollectionFreesTheEntry : Prop :=
  ∀ (s t : State) (k : ReadRequest) (c : RequestClass) (e : ReadEntry),
    readOf s k c → e ∈ s.reads → e.request = k → (s.reads.map ReadEntry.request).Nodup →
    (match c with
      | .pass => t = s
      | .noticeReturn => t = s
      | .ring r _ _ .producer => serves s r ∧ t = producerFaulted s r
      | .ring r _ _ .consumer => serves s r ∧ t = consumerFaulted s r
      | .ring r _ _ .monitor => serves s r ∧ t = consumerFaulted s r
      | .ring _ _ _ .other => False) →
    (∀ b, e.phase = .queued b → exec (.readArrival k) s = .next { s with hostResponse := some .retry }) ∧
    (∀ b, e.phase = .issued b → exec (.readArrival k) s = .next { s with hostResponse := some .retry }) ∧
    (∀ ws n, e.phase = .complete (.data ws) n → exec (.readArrival k) s = .next { s with
      hostResponse := some (.data ws)
      reads := s.reads.filter fun x => decide (x.request ≠ k)
      events := { s.events with counters := { s.events.counters with
        readsAnswered := satSucc s.events.counters.readsAnswered } } }) ∧
    (∀ n, e.phase = .complete .memError n → exec (.readArrival k) s =
      .next (faulted { t with reads := s.reads.filter fun x => decide (x.request ≠ k) } .memError)) ∧
    (∀ n, e.phase = .complete .budget n → exec (.readArrival k) s =
      .next (faulted { t with reads := s.reads.filter fun x => decide (x.request ≠ k) } .budget))

/-- The gate answers a consumer or monitor read that has no entry by the sector's state: NOT_READY in FREE,
FILLING and RELEASING, RETRY without an entry in CLOSING, and a tagged entry in READY (R55 to R58). -/
def Obligations.GateAnswersBySectorState : Prop :=
  ∀ (s : State) (k : ReadRequest) (r : RingNo) (w : Nat) (i : SectorNo) (role : Role),
    readOf s k (.ring r i w role) → (role = .consumer ∨ role = .monitor) → serves s r →
    (∀ e ∈ s.reads, e.request ≠ k) →
    ((s.record r i).state = .free ∨ (s.record r i).state = .filling ∨ (s.record r i).state = .releasing →
      exec (.readArrival k) s = .next (faulted (consumerFaulted s r) .notReady)) ∧
    ((s.record r i).state = .closing →
      exec (.readArrival k) s = .next { s with hostResponse := some .retry }) ∧
    ((s.record r i).state = .ready → s.reads.length < 8 →
      s.reads.countP (fun e => decide (e.request.initiator = k.initiator)) < 2 →
      exec (.readArrival k) s = .next { s with
        hostResponse := some .retry
        reads := s.reads ++ [{
          request := k
          tag := some (r, i)
          phase := .queued none
          attempts := 0
          counted := lineHits (lineOf k.address) s.pwq }] }) ∧
    ((s.record r i).state = .ready →
      (8 ≤ s.reads.length ∨ 2 ≤ s.reads.countP (fun e => decide (e.request.initiator = k.initiator))) →
      exec (.readArrival k) s = .next { s with hostResponse := some .retry })

/-! ### Grants -/

/-- The requesters are eligible under the conditions of their rows; a grant goes to the first eligible one in
rotation and puts it at the back, and with none eligible nothing changes (R115, R116). -/
def Obligations.GrantFollowsTheRotation : Prop :=
  ∀ s : State,
    (s.eligible .pwq = true ↔ s.pwq ≠ [] ∧ s.headIssue = .waiting ∧ s.link.writeSlot = .free ∧
      ¬ retires s s.pwq) ∧
    (s.eligible .drt = true ↔ (∃ e ∈ s.reads, e.phase = .queued none ∧ e.counted = []) ∧
      (s.link.readA = .free ∨ s.link.readB = .free)) ∧
    (s.eligible .notice = true ↔ ∃ n q, s.notices.fifo = n :: q ∧ n.backoff = none ∧
      s.link.writeSlot = .free ∧ s.notices.enabled = true ∧
      ((∃ k, n.slot = some k) ∨ (s.notices.w - s.notices.r).toNat < s.notices.slots)) ∧
    ((∀ q, s.eligible q = false) → exec .grant s = .next s) ∧
    (∀ q, granted s q → ∃ t, exec .grant s = .next t ∧ t.link.next = q.after)

/-- The queue head that is granted the channel is issued as a write and holds the write slot (R83, R117). -/
def Obligations.GrantIssuesTheQueueHead : Prop :=
  ∀ (s : State) (e : QueueEntry) (q : List QueueEntry), granted s .pwq → s.pwq = e :: q →
    exec .grant s = .next { s with
      headIssue := .inFlight
      link := { s.link with
        writeSlot := .occupied .queueHead
        request := some (.write e.address e.words)
        next := .drt } }

/-- The oldest eligible read that is granted the channel is issued into read slot A if that is FREE and into
read slot B otherwise (R102, R114, R117). -/
def Obligations.GrantIssuesTheOldestRead : Prop :=
  ∀ (s : State) (older younger : List ReadEntry) (e : ReadEntry), granted s .drt →
    s.reads = older ++ e :: younger → (s.reads.map ReadEntry.request).Nodup →
    e.phase = .queued none → e.counted = [] → (∀ x ∈ older, ¬ (x.phase = .queued none ∧ x.counted = [])) →
    (s.link.readA = .free → exec .grant s = .next { s with
      reads := older ++ { e with phase := .issued false } :: younger
      link := { s.link with
        readA := .occupied e.request
        request := some (.read 1 e.request.address e.request.countCode)
        next := .notice } }) ∧
    (s.link.readA ≠ .free → exec .grant s = .next { s with
      reads := older ++ { e with phase := .issued false } :: younger
      link := { s.link with
        readB := .occupied e.request
        request := some (.read 2 e.request.address e.request.countCode)
        next := .notice } })

/-- The notice head that is granted the channel is written to its slot, at its first issue slot W modulo the
slot count, after which W is one higher; the record has the bytes of its layout (R118, R137, R184). -/
def Obligations.GrantWritesTheNotice : Prop :=
  ∀ (s : State) (n : PendingNotice) (q : List PendingNotice), granted s .notice → s.notices.fifo = n :: q →
    (∀ k, n.slot = some k → exec .grant s = .next { s with link := { s.link with
      writeSlot := .occupied .noticeHead
      request := some (.write (s.notices.base + BitVec.ofNat 32 (16 * k)) n.notice.words)
      next := .pwq } }) ∧
    (n.slot = none → exec .grant s = .next { s with
      notices := { s.notices with
        fifo := { n with slot := some (s.notices.w.toNat % s.notices.slots) } :: q
        w := s.notices.w + 1 }
      link := { s.link with
        writeSlot := .occupied .noticeHead
        request := some (.write
          (s.notices.base + BitVec.ofNat 32 (16 * (s.notices.w.toNat % s.notices.slots))) n.notice.words)
        next := .pwq } }) ∧
    ∃ a b : Word, n.notice.words = [{ data := a, mask := 0xFF }, { data := b, mask := 0xFF }] ∧
      a.getLsbD 0 = true ∧
      a.extractLsb' 1 7 = (match n.notice.type with
        | .message => 1
        | .ringOff => 2
        | .purged => 3) ∧
      (a.extractLsb' 8 8).toNat = n.notice.ring.val ∧ (a.extractLsb' 16 8).toNat = n.notice.sector.val ∧
      a.getLsbD 24 = n.notice.flags.timedOut ∧ a.getLsbD 25 = n.notice.flags.aborted ∧
      a.getLsbD 26 = n.notice.flags.writeError ∧ a.getLsbD 27 = n.notice.flags.trailingDrop ∧
      a.getLsbD 28 = n.notice.gap ∧ a.getLsbD 29 = decide (n.notice.lost ≠ 0) ∧
      a.getLsbD 30 = false ∧ a.getLsbD 31 = false ∧
      a.extractLsb' 32 16 = n.notice.seq ∧ a.extractLsb' 48 16 = BitVec.ofNat 16 n.notice.length ∧
      b.extractLsb' 0 16 = n.notice.lost ∧ b.extractLsb' 16 16 = BitVec.ofNat 16 n.notice.highWater ∧
      b.extractLsb' 32 32 = n.notice.closeTime

/-! ### Responses -/

/-- The queue head leaves at an OKAY or ERROR response, and at a BUSY response that reaches the budget: a PASS
write, and a FILL or CLOSE write that leaves its sector with a pending count above 0, or a FILLING sector with
any; an ERROR and a budget drop lose the write. A FILL or CLOSE entry of a PURGING sector that becomes the head
is retired, and those behind it in turn: pending and blocking counts fall, and no write is lost (R13, R22, R23,
R24, R86, R87, R88, R89, R90, R119, R120, R123). -/
def Obligations.HeadLeavesAtItsResponse : Prop :=
  ∀ (s t : State) (e : QueueEntry) (q : List QueueEntry) (c : Instr) (lost : Bool) (v : EventUnit),
    s.link.writeSlot = .occupied .queueHead → s.pwq = e :: q → endsHead s e c lost v →
    t = headless { s with link := { s.link with writeSlot := .free }, events := v } q →
    (e.kind = .pass → Reaches c s t) ∧
    (∀ r i, (e.kind = .fill r i ∨ e.kind = .close r i) →
      2 ≤ (s.record r i).pending ∨ (s.record r i).state = .filling →
      Reaches c s (withRecord t r i (errorIf lost { s.record r i with
        pending := (s.record r i).pending - 1 }))) ∧
    ∀ e' q' r i, e.kind = .pass → q = e' :: q' → (e'.kind = .fill r i ∨ e'.kind = .close r i) →
      (s.record r i).state = .purging → Reaches c s (purgedAway (headless t q') r i)

/-- The last tagged write of a CLOSING sector makes it READY, with WRITE_ERROR where it was lost, counted and
announced while the ring's notices and the queue are on; the release of a RELEASING sector makes it FREE, lost
or not, in a ring that is not thereby drained; so does the last entry of a PURGING sector while its ring has
another (R17, R19, R21, R24, R68, R87, R88, R89, R132, R133, R135). -/
def Obligations.LastDepartureMovesTheSector : Prop :=
  ∀ (s t : State) (e : QueueEntry) (q : List QueueEntry) (r : RingNo) (i : SectorNo) (c : Instr) (lost : Bool)
    (v : EventUnit),
    s.link.writeSlot = .occupied .queueHead → s.pwq = e :: q → endsHead s e c lost v →
    (s.record r i).pending = 1 →
    t = headless { s with link := { s.link with writeSlot := .free }, events := v } q →
    ((e.kind = .fill r i ∨ e.kind = .close r i) → (s.record r i).state = .closing →
      Reaches c s (delivered t r i (errorIf lost (s.record r i)))) ∧
    (e.kind = .release r i → (s.record r i).state = .releasing →
      ¬ ((s.ring r).lifecycle = .stopping ∧ (s.ring r).fillState = .idle ∧
        ∀ j, j ≠ i → (s.record r j).state = .free) →
      Reaches c s (withRecord t r i { s.record r i with state := .free, pending := 0 })) ∧
    ((s.record r i).state = .purging → (∃ j, j ≠ i ∧ (s.record r j).state ≠ .free) →
      ((e.kind = .fill r i ∨ e.kind = .close r i) →
        Reaches c s (withRecord t r i (errorIf lost { s.record r i with state := .free, pending := 0 }))) ∧
      (e.kind = .release r i →
        Reaches c s (withRecord t r i { s.record r i with state := .free, pending := 0 })))

/-- A STOPPING ring that is IDLE becomes OFF when its last sector becomes FREE, and a PURGING ring when its last
PURGING sector does, whatever the outcome of the write that leaves: the decode entry is absent, and while the
notice queue is enabled a RING_OFF or PURGED notice takes the lost count and the gap flag, or is dropped at a
full FIFO (R21, R24, R134, R135, R151, R153). -/
def Obligations.DrainedRingsTurnOff : Prop :=
  ∀ (s t : State) (e : QueueEntry) (q : List QueueEntry) (r : RingNo) (i : SectorNo) (c : Instr) (lost : Bool)
    (v : EventUnit),
    s.link.writeSlot = .occupied .queueHead → s.pwq = e :: q → endsHead s e c lost v →
    (s.record r i).pending = 1 → (∀ j, j ≠ i → (s.record r j).state = .free) →
    t = headless { s with link := { s.link with writeSlot := .free }, events := v } q →
    (e.kind = .release r i → (s.record r i).state = .releasing → (s.ring r).lifecycle = .stopping →
      (s.ring r).fillState = .idle →
      Reaches c s (turnedOff (withRecord t r i { s.record r i with state := .free, pending := 0 }) r .ringOff)) ∧
    ((s.record r i).state = .purging → (s.ring r).lifecycle = .purging →
      ((e.kind = .fill r i ∨ e.kind = .close r i) →
        Reaches c s (turnedOff (withRecord t r i
          (errorIf lost { s.record r i with state := .free, pending := 0 })) r .purged)) ∧
      (e.kind = .release r i →
        Reaches c s (turnedOff (withRecord t r i { s.record r i with state := .free, pending := 0 }) r .purged)))

/-- The fetch of a read ends at its response: COMPLETE with the data or with MEM_ERROR and the discard time
running, or, where a write overtook it, QUEUED again and counted afresh (R103, R105, R119, R120). -/
def Obligations.FetchEndsAtItsResponse : Prop :=
  ∀ (s t : State) (older younger : List ReadEntry) (e : ReadEntry) (tag : BitVec 2) (data : List Word)
    (kind : ErrorKind),
    s.reads = older ++ e :: younger → (s.reads.map ReadEntry.request).Nodup →
    ((tag = 1 ∧ s.link.readA = .occupied e.request ∧
        t = { s with link := { s.link with readA := .free } }) ∨
      (tag = 2 ∧ s.link.readB = .occupied e.request ∧
        t = { s with link := { s.link with readB := .free } })) →
    (e.phase = .issued false →
      exec (.okayResponse tag data) s = .next { t with
        reads := older ++ { e with phase := .complete (.data data) s.discardTime.toNat } :: younger } ∧
      exec (.errorResponse tag kind) s = .next { t with
        reads := older ++ { e with phase := .complete .memError s.discardTime.toNat } :: younger
        events := { s.events with flags := s.events.flags ||| 0x02 } }) ∧
    (e.phase = .issued true →
      exec (.okayResponse tag data) s = .next { t with
        reads := older ++ { e with
          phase := .queued none
          attempts := 0
          counted := lineHits (lineOf e.request.address) s.pwq } :: younger } ∧
      exec (.errorResponse tag kind) s = .next { t with
        reads := older ++ { e with
          phase := .queued none
          attempts := 0
          counted := lineHits (lineOf e.request.address) s.pwq } :: younger
        events := { s.events with flags := s.events.flags ||| 0x02 } })

/-- A notice leaves the FIFO at the OKAY or ERROR response to its write, and Wd is one higher; OKAY is counted,
and ERROR sets NOTICE_LOST and MEM_ERROR (R119, R120, R138, R139). -/
def Obligations.NoticeLeavesAtItsResponse : Prop :=
  ∀ (s t : State) (n : PendingNotice) (q : List PendingNotice) (data : List Word) (kind : ErrorKind),
    s.link.writeSlot = .occupied .noticeHead → s.notices.fifo = n :: q →
    t = { s with
      notices := { s.notices with fifo := q, wd := s.notices.wd + 1 }
      link := { s.link with writeSlot := .free } } →
    exec (.okayResponse 0 data) s = .next { t with events := { s.events with
      counters := { s.events.counters with
        noticesWritten := satSucc s.events.counters.noticesWritten } } } ∧
    exec (.errorResponse 0 kind) s = .next { t with events := { s.events with
      flags := s.events.flags ||| 0x12 } }

/-- A BUSY response raises its owner's attempt count and sends it into backoff, or, at a non-zero budget, gives
the request up: a queue head leaves as at an ERROR response but for MEM_ERROR, whatever its kind, a read holds
BUDGET, a notice is lost; below the budget a FILL or CLOSE head of a PURGING sector is retired, and a stale read
is counted afresh (R85, R89, R90, R104, R105, R121, R122, R123, R139). -/
def Obligations.BusyOwnersWaitOrGiveUp : Prop :=
  ∀ (s : State) (waits : Option Nat),
    waits = (if s.link.backoff = 0 then none else some s.link.backoff.toNat) →
    (∀ e q t, s.link.writeSlot = .occupied .queueHead → s.pwq = e :: q →
      t = { s with
        link := { s.link with writeSlot := .free }
        events := { s.events with counters := { s.events.counters with
          busyResponses := satSucc s.events.counters.busyResponses } } } →
      (¬ spent s e.attempts → ¬ retires s s.pwq →
        exec (.busyResponse 0) s = .next { t with
          pwq := { e with attempts := satSucc e.attempts } :: q
          headIssue := match waits with
            | none => .waiting
            | some n => .backoff n }) ∧
      (∀ r i, ¬ spent s e.attempts → (e.kind = .fill r i ∨ e.kind = .close r i) →
        (s.record r i).state = .purging →
        Reaches (.busyResponse 0) s (purgedAway (headless t q) r i)) ∧
      (spent s e.attempts →
        (e.kind = .pass → Reaches (.busyResponse 0) s (headless { t with events := { t.events with
          flags := s.events.flags ||| 0x01
          counters := { t.events.counters with
            writesLost := satSucc s.events.counters.writesLost } } } q)) ∧
        ∀ kind, ∃ u, exec (.busyResponse 0) s = .next u ∧
          exec (.errorResponse 0 kind) { s with events := t.events } =
            .next { u with events := { u.events with flags := u.events.flags ||| 0x02 } })) ∧
    (∀ older e younger tag t, s.reads = older ++ e :: younger → (s.reads.map ReadEntry.request).Nodup →
      ((tag = 1 ∧ s.link.readA = .occupied e.request ∧
          t = { s with link := { s.link with readA := .free } }) ∨
        (tag = 2 ∧ s.link.readB = .occupied e.request ∧
          t = { s with link := { s.link with readB := .free } })) →
      (e.phase = .issued false →
        ¬ spent s e.attempts →
        exec (.busyResponse tag) s = .next { t with
          reads := older ++ { e with phase := .queued waits, attempts := satSucc e.attempts } :: younger
          events := { s.events with counters := { s.events.counters with
            busyResponses := satSucc s.events.counters.busyResponses } } }) ∧
      (e.phase = .issued false → spent s e.attempts →
        exec (.busyResponse tag) s = .next { t with
          reads := older ++ { e with
            phase := .complete .budget s.discardTime.toNat
            attempts := satSucc e.attempts } :: younger
          events := { s.events with counters := { s.events.counters with
            busyResponses := satSucc s.events.counters.busyResponses } } }) ∧
      (e.phase = .issued true →
        exec (.busyResponse tag) s = .next { t with
          reads := older ++ { e with
            phase := .queued none
            attempts := 0
            counted := lineHits (lineOf e.request.address) s.pwq } :: younger
          events := { s.events with counters := { s.events.counters with
            busyResponses := satSucc s.events.counters.busyResponses } } })) ∧
    (∀ n q t, s.link.writeSlot = .occupied .noticeHead → s.notices.fifo = n :: q →
      t = { s with
        link := { s.link with writeSlot := .free }
        events := { s.events with counters := { s.events.counters with
          busyResponses := satSucc s.events.counters.busyResponses } } } →
      (¬ spent s n.attempts →
        exec (.busyResponse 0) s = .next { t with notices := { s.notices with
          fifo := { n with attempts := satSucc n.attempts, backoff := waits } :: q } }) ∧
      (spent s n.attempts →
        exec (.busyResponse 0) s = .next { t with
          notices := { s.notices with fifo := q, wd := s.notices.wd + 1 }
          events := { t.events with flags := s.events.flags ||| 0x10 } }))

/-- A response of any kind whose tag names a FREE slot or no slot changes nothing, and one to an ORPHANED slot
frees the slot and does nothing else (R113, R126, R185). -/
def Obligations.StrayResponsesAreDiscarded : Prop :=
  ∀ (s : State) (c : Instr) (tag : BitVec 2),
    ((∃ data, c = .okayResponse tag data) ∨ c = .busyResponse tag ∨ ∃ kind, c = .errorResponse tag kind) →
    ((tag = 0 ∧ s.link.writeSlot = .free) ∨ (tag = 1 ∧ s.link.readA = .free) ∨
      (tag = 2 ∧ s.link.readB = .free) ∨ tag = 3 → exec c s = .next s) ∧
    (tag = 0 → s.link.writeSlot = .orphaned →
      exec c s = .next { s with link := { s.link with writeSlot := .free } }) ∧
    (tag = 1 → s.link.readA = .orphaned →
      exec c s = .next { s with link := { s.link with readA := .free } }) ∧
    (tag = 2 → s.link.readB = .orphaned →
      exec c s = .next { s with link := { s.link with readB := .free } })

/-! ### Time -/

/-- A backoff interval that has been counted ends, its owner waiting to be offered again, and a discard timer that
has been counted frees its entry with READ_EXPIRED; one still being counted, or without its owner, changes
nothing, which for the count is the model's choice (R107, R122; log entry 6). -/
def Obligations.ExpiriesAreTakenWhenDue : Prop :=
  ∀ s : State,
    (s.headIssue = .backoff 0 →
      exec (.backoffExpiry .queueHead) s = .next { s with headIssue := .waiting }) ∧
    (s.headIssue ≠ .backoff 0 → exec (.backoffExpiry .queueHead) s = .next s) ∧
    (∀ n q, s.notices.fifo = n :: q → n.backoff = some 0 →
      exec (.backoffExpiry .noticeHead) s = .next { s with notices := { s.notices with
        fifo := { n with backoff := none } :: q } }) ∧
    ((∀ n q, s.notices.fifo = n :: q → n.backoff ≠ some 0) →
      exec (.backoffExpiry .noticeHead) s = .next s) ∧
    (∀ older e younger, s.reads = older ++ e :: younger → (s.reads.map ReadEntry.request).Nodup →
      (e.phase = .queued (some 0) →
        exec (.backoffExpiry (.read e.request)) s = .next { s with
          reads := older ++ { e with phase := .queued none } :: younger }) ∧
      (e.phase ≠ .queued (some 0) → exec (.backoffExpiry (.read e.request)) s = .next s) ∧
      (∀ x, e.phase = .complete x 0 →
        exec (.discardTimerExpiry e.request) s = .next { s with
          reads := older ++ younger
          events := { s.events with
            flags := s.events.flags ||| 0x04
            counters := { s.events.counters with
              readsExpired := satSucc s.events.counters.readsExpired } } }) ∧
      ((∀ x, e.phase ≠ .complete x 0) → exec (.discardTimerExpiry e.request) s = .next s)) ∧
    (∀ k, (∀ e ∈ s.reads, e.request ≠ k) →
      exec (.backoffExpiry (.read k)) s = .next s ∧ exec (.discardTimerExpiry k) s = .next s)

/-- The expiry of a ring's fill timer closes the producer's message: TIMED_OUT with a length derived from
high-water, READY at once where no write of it is queued, or the end of a shadow, after which a STOPPING ring
with every sector FREE becomes OFF; a timer that is stopped, or whose interval has not been counted, does not
expire (R15, R17, R29, R48, R49, R151). That a counted interval stays due until its expiry command is taken is
the model's choice (log entry 6). -/
def Obligations.FillTimerExpiryClosesTheMessage : Prop :=
  ∀ (s t : State) (r : RingNo) (i : SectorNo), i = (s.ring r).fillPointer →
    t = withRing { s with events := { s.events with flags := s.events.flags ||| 0x40 } } r
      (closedRing s r { s.ring r with counters := { (s.ring r).counters with
        fillTimeouts := satSucc (s.ring r).counters.fillTimeouts } }) →
    ((s.ring r).fillTimer ≠ some 0 → exec (.fillTimerExpiry r) s = .next s) ∧
    ((s.ring r).fillTimer = some 0 → (s.ring r).fillState = .opened →
      (0 < (s.record r i).pending →
        exec (.fillTimerExpiry r) s = .next (withRecord t r i { s.record r i with
          state := .closing
          flags := { (s.record r i).flags with timedOut := true }
          length := if (s.cfg r).modes &&& 3 = 0 then (s.record r i).highWater - 8 else (s.record r i).highWater
          closeTime := s.timestamp })) ∧
      ((s.record r i).pending = 0 →
        exec (.fillTimerExpiry r) s = .next (delivered t r i { s.record r i with
          flags := { (s.record r i).flags with timedOut := true }
          length := if (s.cfg r).modes &&& 3 = 0 then (s.record r i).highWater - 8 else (s.record r i).highWater
          closeTime := s.timestamp }))) ∧
    ((s.ring r).fillTimer = some 0 → (s.ring r).fillState = .shadow →
      ((s.ring r).lifecycle ≠ .stopping ∨ (∃ j, (s.record r j).state ≠ .free) →
        exec (.fillTimerExpiry r) s = .next t) ∧
      ((s.ring r).lifecycle = .stopping → (∀ j, (s.record r j).state = .free) →
        exec (.fillTimerExpiry r) s = .next (turnedOff t r .ringOff)))

/-- One tick raises the timestamp, which wraps, and is counted by every running timer; while PORSTn is
asserted no tick is counted (R48, R107, R122, R182). That an interval that has been counted stays at 0 until
its expiry is taken is the model's choice (log entry 6). -/
def Obligations.TickCountsEveryTimer : Prop :=
  ∀ s : State,
    (s.porstn = false → exec .tick s = .next { s with
      timestamp := s.timestamp + 1
      headIssue := match s.headIssue with
        | .backoff n => .backoff (n - 1)
        | .waiting => .waiting
        | .inFlight => .inFlight
      reads := s.reads.map fun e => { e with phase := match e.phase with
        | .queued b => .queued (b.map (· - 1))
        | .issued b => .issued b
        | .complete x n => .complete x (n - 1) }
      rings := s.rings.map fun x => { x with fillTimer := x.fillTimer.map (· - 1) }
      notices := { s.notices with
        fifo := s.notices.fifo.map fun n => { n with backoff := n.backoff.map (· - 1) } } }) ∧
    (s.porstn = true → exec .tick s = .next s)

/-! ### Reset lines -/

/-- The assertion of LRSTn frees every read, closes each open message ABORTED, ends each shadow, makes a STOPPING
ring OFF whose shadow ends with every sector FREE, and sets LINK_RESET, taking the rings in some order, each
once; while it stays asserted no request is taken (R16, R51, R110, R151, R164, R165). The model's choices in it: that
the order is the free value that the count orderChoice picks, and that each assertion raises that count by one
(log entry 2); and that such an arrival leaves no response in the model's record (log entry 8). -/
def Obligations.LrstnClosesAndFrees : Prop :=
  ∀ s : State,
    (s.lrstn = true → exec .lrstnAsserted s = .next s ∧
      (∀ q, exec (.writeArrival q) s = .next { s with hostResponse := none }) ∧
      ∀ k, exec (.readArrival k) s = .next { s with hostResponse := none }) ∧
    (s.lrstn = false → ∃ (order : List RingNo) (t : State), order.Perm (List.finRange 8) ∧
      t = order.foldl aborted (freed s fun _ => true) ∧
      exec .lrstnAsserted s = .next { t with
        lrstn := true
        orderChoice := s.orderChoice + 1
        events := { t.events with flags := t.events.flags ||| 0x80 } }) ∧
    (s.lrstn = false → ∃ t, exec .lrstnAsserted s = .next t ∧
      t.lrstn = true ∧ t.reads = [] ∧ t.link = (freed s fun _ => true).link ∧
      t.events.flags.getLsbD 7 = true ∧ t.pwq = s.pwq ∧ t.headIssue = s.headIssue ∧ t.config = s.config ∧
      t.port = s.port ∧ t.timestamp = s.timestamp ∧ t.discardTime = s.discardTime ∧
      (∃ q, t.notices = { s.notices with fifo := s.notices.fifo ++ q }) ∧
      ∀ r,
        ((s.ring r).fillState = .idle ∨ ¬ serves s r →
          t.ring r = s.ring r ∧ t.window r = s.window r ∧ ∀ j, t.record r j = s.record r j) ∧
        ((s.ring r).lifecycle = .stopping → (s.ring r).fillState = .shadow →
          (∀ j, (s.record r j).state = .free) → (t.ring r).lifecycle = .off ∧ t.window r = none) ∧
        (¬ ((s.ring r).lifecycle = .stopping ∧ (s.ring r).fillState = .shadow ∧
            ∀ j, (s.record r j).state = .free) →
          (t.ring r).lifecycle = (s.ring r).lifecycle ∧ t.window r = s.window r) ∧
        (s.notices.enabled = false ∨ (s.ring r).fillState = .idle →
          (t.ring r).lostCount = (s.ring r).lostCount ∧ (t.ring r).noticeGap = (s.ring r).noticeGap) ∧
        (serves s r → (s.ring r).fillState ≠ .idle →
          (t.ring r).fillPointer = nextSector s r ∧ (t.ring r).fillState = .idle ∧
          (t.ring r).fillTimer = none ∧ (t.ring r).nextSeq = (s.ring r).nextSeq ∧
          (t.ring r).counters.fillTimeouts = (s.ring r).counters.fillTimeouts ∧
          ∀ j, j ≠ (s.ring r).fillPointer ∨ (s.ring r).fillState = .shadow → t.record r j = s.record r j) ∧
        (serves s r → (s.ring r).fillState = .opened →
          t.record r (s.ring r).fillPointer = { s.record r (s.ring r).fillPointer with
            state := if (s.record r (s.ring r).fillPointer).pending = 0 then .ready else .closing
            flags := { (s.record r (s.ring r).fillPointer).flags with aborted := true }
            length := if (s.cfg r).modes &&& 3 = 0
              then (s.record r (s.ring r).fillPointer).highWater - 8
              else (s.record r (s.ring r).fillPointer).highWater
            closeTime := s.timestamp }))

/-- LRSTn negated changes the line alone; PORSTn asserted abandons the transaction; PORSTn negated gives
every item its power-on value, the device address taking MA1..MA0 (R1, R107, R124, R165, R174, R175, R181).
The model's choices in it: that the other state is kept from the assertion of PORSTn to its negation, and that
a negation acts whether or not an assertion came before it (log entry 3); that LRSTn keeps its level through
PORSTn (log entry 4); the values of the model's own records (log entry 8); and that the queue of commands and
the count of free orders are kept (log entries 1 and 2). -/
def Obligations.ResetLinesSetTheirValues : Prop :=
  ∀ (s : State) (ma : BitVec 2),
    exec .lrstnNegated s = .next { s with lrstn := false } ∧
    exec .porstnAsserted s = .next { s with
      porstn := true
      port := { s.port with transaction := .idle, acked := false, sent := none } } ∧
    exec (.porstnNegated ma) s = .next {
      pending := s.pending
      orderChoice := s.orderChoice
      porstn := false
      lrstn := s.lrstn
      hostResponse := none
      decode := Vector.replicate 8 none
      config := Vector.replicate 8 {
        base := 0, sizeCode := 0, sectorCount := 2, producer := 0, consumer := 1, monitors := 0, modes := 0,
        fillTimeout := 0, marker := 0 }
      rings := Vector.replicate 8 {
        lifecycle := .off, fillPointer := 0, fillState := .idle, fillTimer := none, nextSeq := 0,
        lostCount := 0, noticeGap := false,
        counters := {
          delivered := 0, lost := 0, fillTimeouts := 0, stalls := 0, producerFaults := 0, consumerFaults := 0 } }
      sectors := Vector.replicate 8 (Vector.replicate 32 {
        state := .free, seq := 0, pending := 0, highWater := 0, length := 0, flags := {}, closeTime := 0 })
      pwq := []
      headIssue := .waiting
      reads := []
      discardTime := 1024
      notices := {
        fifo := [], w := 0, wd := 0, r := 0, base := 0, slotCode := 0, returnAddress := 0, enabled := false }
      link := {
        writeSlot := .free, readA := .free, readB := .free, next := .pwq, budget := 4096, backoff := 4,
        request := none }
      events := { flags := 0, masks := 0x1FF, counters := {} }
      timestamp := 0
      port := {
        address := 0x3A + ma.setWidth 7, transaction := .idle, outOfWindow := false, offset := 0,
        staging := none, holding := none, inspectSelect := 0, snapshot := {}, configLocked := false,
        result := { ring := 0, code := 0, verdict := .none }, commandRing := 0, acked := false,
        sent := none } }

/-! ### Commands -/

/-- ENABLE of an OFF ring with a valid configuration that overlaps nothing makes the ring ACTIVE with its
starting values, its counters kept, and frees the reads in its window (R3, R10, R28, R108, R148). That a
command's byte advances an offset that stands at it, and no other, is the model's choice (log entry 5). -/
def Obligations.EnableMakesTheRingActive : Prop :=
  ∀ (s : State) (ring : BitVec 4) (r : RingNo), portTakes s → ring.toNat = r.val →
    (s.ring r).lifecycle = .off → validConfig (s.cfg r) → ¬ configOverlaps s r →
    exec (.enable ring) s = .next (commandDone (freed
      { s with
        decode := s.decode.set r (some {
          base := (s.cfg r).base
          sectorSize := 256 * 2 ^ (s.cfg r).sizeCode.toNat
          sectorCount := (s.cfg r).sectorCount.toNat
          producer := (s.cfg r).producer
          consumer := (s.cfg r).consumer
          monitors := (s.cfg r).monitors })
        sectors := s.sectors.set r (Vector.replicate 32 {})
        rings := s.rings.set r {
          lifecycle := .active, fillPointer := 0, fillState := .idle, fillTimer := none, nextSeq := 0,
          lostCount := 0, noticeGap := false, counters := (s.ring r).counters } }
      fun e => decide ((s.cfg r).base.toNat ≤ e.request.address.toNat ∧ e.request.address.toNat <
        (s.cfg r).base.toNat + 256 * 2 ^ (s.cfg r).sizeCode.toNat * (s.cfg r).sectorCount.toNat))
      0x01 ring .done)

/-- A command that is refused changes the command result alone, and the reasons are taken in the order
NO_RING, STATE, BAD_CONFIG, OVERLAP (R145, R146, R147, R130, R131, R150, R152). That a command's byte
advances an offset that stands at it, and no other, is the model's choice (log entry 5). -/
def Obligations.RefusedCommandsChangeTheResultAlone : Prop :=
  ∀ (s : State) (ring : BitVec 4), portTakes s →
    (8 ≤ ring.toNat →
      exec (.enable ring) s = .next (commandDone s 0x01 ring (.refused .noRing)) ∧
      exec (.stop ring) s = .next (commandDone s 0x02 ring (.refused .noRing)) ∧
      exec (.purge ring) s = .next (commandDone s 0x03 ring (.refused .noRing))) ∧
    (∀ r : RingNo, ring.toNat = r.val →
      ((s.ring r).lifecycle ≠ .off →
        exec (.enable ring) s = .next (commandDone s 0x01 ring (.refused .state))) ∧
      ((s.ring r).lifecycle = .off → ¬ validConfig (s.cfg r) →
        exec (.enable ring) s = .next (commandDone s 0x01 ring (.refused .badConfig))) ∧
      ((s.ring r).lifecycle = .off → validConfig (s.cfg r) → configOverlaps s r →
        exec (.enable ring) s = .next (commandDone s 0x01 ring (.refused .overlap))) ∧
      ((s.ring r).lifecycle ≠ .active →
        exec (.stop ring) s = .next (commandDone s 0x02 ring (.refused .state))) ∧
      (¬ serves s r → exec (.purge ring) s = .next (commandDone s 0x03 ring (.refused .state)))) ∧
    (s.notices.enabled = true ∨ s.link.writeSlot = .occupied .noticeHead →
      exec (.noticeEnable ring) s = .next (commandDone s 0x12 ring (.refused .state))) ∧
    (s.notices.enabled = false → s.link.writeSlot ≠ .occupied .noticeHead →
      (¬ validNoticeConfig s.notices →
        exec (.noticeEnable ring) s = .next (commandDone s 0x12 ring (.refused .badConfig))) ∧
      (validNoticeConfig s.notices → noticeConfigOverlaps s →
        exec (.noticeEnable ring) s = .next (commandDone s 0x12 ring (.refused .overlap)))) ∧
    (s.notices.enabled = false →
      exec (.noticeDisable ring) s = .next (commandDone s 0x13 ring (.refused .state))) ∧
    (∀ code : Byte, code ∉ commandCodes →
      exec (.unknownCommand code ring) s = .next (commandDone s code ring (.refused .noRing)))

/-- STOP of an ACTIVE ring makes it STOPPING with everything else kept, or OFF at the command where it is
IDLE with every sector FREE, with a RING_OFF notice while the queue is enabled, dropped at a full FIFO (R135,
R150, R151). That a command's byte advances an offset that stands at it, and no other, is the model's choice
(log entry 5). -/
def Obligations.StopMakesTheRingStopping : Prop :=
  ∀ (s : State) (ring : BitVec 4) (r : RingNo), portTakes s → ring.toNat = r.val →
    (s.ring r).lifecycle = .active →
    ((s.ring r).fillState ≠ .idle ∨ (∃ j, (s.record r j).state ≠ .free) →
      exec (.stop ring) s =
        .next (commandDone (withRing s r { s.ring r with lifecycle := .stopping }) 0x02 ring .done)) ∧
    ((s.ring r).fillState = .idle → (∀ j, (s.record r j).state = .free) →
      exec (.stop ring) s = .next (commandDone (turnedOff s r .ringOff) 0x02 ring .done))

/-- PURGE of an ACTIVE or STOPPING ring makes it PURGING: sectors with queued writes become PURGING and the
others FREE, the message ends without a close, and the reads tagged with the ring are freed; a FILL or CLOSE
head of the ring that waits is retired, and those behind it in turn, none of them lost; with no queued
write the ring is OFF at once, with a PURGED notice while the queue is enabled (R20, R21, R23, R54, R90, R108,
R134, R152, R153). That a command's byte advances an offset that stands at it, and no other, is the model's
choice (log entry 5). -/
def Obligations.PurgeMakesTheRingPurging : Prop :=
  ∀ (s t : State) (ring : BitVec 4) (r : RingNo), portTakes s → ring.toNat = r.val → serves s r →
    t = freed
      { s with
        rings := s.rings.set r { s.ring r with lifecycle := .purging, fillState := .idle, fillTimer := none }
        sectors := s.sectors.set r (s.sectors[r].map purgedRecord) }
      (fun e => decide (∃ i, e.tag = some (r, i))) →
    ((∃ j, (s.record r j).state ≠ .free ∧ 0 < (s.record r j).pending) →
      (∃ u, Retired t u ∧ exec (.purge ring) s = .next (commandDone u 0x03 ring .done)) ∧
      (∀ e q i, s.pwq = e :: q → s.headIssue ≠ .inFlight → (e.kind = .fill r i ∨ e.kind = .close r i) →
        (s.record r i).state ≠ .free → 0 < (s.record r i).pending →
        ∃ u, Retired (purgedAway (headless t q) r i) u ∧
          exec (.purge ring) s = .next (commandDone u 0x03 ring .done))) ∧
    ((∀ j, (s.record r j).state ≠ .free → (s.record r j).pending = 0) →
      ∃ u, Retired (turnedOff t r .purged) u ∧ exec (.purge ring) s = .next (commandDone u 0x03 ring .done))

/-- FLUSH_READS frees every read entry, orphaning the slots of those ISSUED, and CLEAR_COUNTERS sets every
device counter and ring counter to 0; neither changes anything else but the command result (R109, R154).
That a command's byte advances an offset that stands at it, and no other, is the model's choice (log entry
5). -/
def Obligations.FlushAndClearKeepTheRest : Prop :=
  ∀ (s : State) (ring : BitVec 4), portTakes s →
    exec (.flushReads ring) s = .next (commandDone
      { s with
        reads := []
        link := { s.link with
          readA := if ∃ e ∈ s.reads, e.inFlight = true ∧ s.link.readA = .occupied e.request
            then .orphaned else s.link.readA
          readB := if ∃ e ∈ s.reads, e.inFlight = true ∧ s.link.readB = .occupied e.request
            then .orphaned else s.link.readB } } 0x10 ring .done) ∧
    exec (.clearCounters ring) s = .next (commandDone
      { s with
        rings := s.rings.map fun x => { x with counters := {
          delivered := 0, lost := 0, fillTimeouts := 0, stalls := 0, producerFaults := 0,
          consumerFaults := 0 } }
        events := { s.events with counters := {
          writesAccepted := 0, writesLost := 0, readsAnswered := 0, readsExpired := 0, busyResponses := 0,
          noticesWritten := 0, noticesOverrun := 0, queueFull := 0,
          faults := Vector.replicate 10 0 } } } 0x11 ring .done)

/-- NOTICE_ENABLE zeroes W, Wd and R and treats the FIFO head as never issued; NOTICE_DISABLE keeps the
indices, the FIFO and the configuration (R118, R130, R131). That a command's byte advances an offset that
stands at it, and no other, is the model's choice (log entry 5). -/
def Obligations.NoticeCommandsSetTheEnable : Prop :=
  ∀ (s : State) (ring : BitVec 4), portTakes s →
    (s.notices.enabled = false → s.link.writeSlot ≠ .occupied .noticeHead → validNoticeConfig s.notices →
      ¬ noticeConfigOverlaps s →
      exec (.noticeEnable ring) s = .next (commandDone { s with notices := { s.notices with
        enabled := true, w := 0, wd := 0, r := 0
        fifo := s.notices.fifo.map fun n => { n with slot := none } } } 0x12 ring .done)) ∧
    (s.notices.enabled = true →
      exec (.noticeDisable ring) s =
        .next (commandDone { s with notices := { s.notices with enabled := false } } 0x13 ring .done))

/-- DATAPATH_RESET makes every ring OFF, empties the queues and the table, orphans every OCCUPIED slot and
clears the flags and counters, and keeps the configuration, the settings, the masks, the timestamp and the
port (R91, R127, R128, R155, R174). That a command's byte advances an offset that stands at it, and no
other, is the model's choice (log entry 5). -/
def Obligations.DatapathResetKeepsConfiguration : Prop :=
  ∀ (s : State) (ring : BitVec 4), portTakes s →
    exec (.datapathReset ring) s = .next (commandDone
      { s with
        decode := Vector.replicate 8 none
        rings := Vector.replicate 8 {
          lifecycle := .off, fillPointer := 0, fillState := .idle, fillTimer := none, nextSeq := 0,
          lostCount := 0, noticeGap := false,
          counters := {
            delivered := 0, lost := 0, fillTimeouts := 0, stalls := 0, producerFaults := 0, consumerFaults := 0 } }
        sectors := Vector.replicate 8 (Vector.replicate 32 {
          state := .free, seq := 0, pending := 0, highWater := 0, length := 0, flags := {}, closeTime := 0 })
        pwq := []
        headIssue := .waiting
        reads := []
        notices := { s.notices with fifo := [], w := 0, wd := 0, r := 0 }
        link := { s.link with
          writeSlot := if s.link.writeSlot = .free then .free else .orphaned
          readA := if s.link.readA = .free then .free else .orphaned
          readB := if s.link.readB = .free then .free else .orphaned
          next := .pwq }
        events := { s.events with flags := 0, counters := {} } } 0x1F ring .done)

/-! ### The management port -/

/-- The port answers its own address alone; two offset bytes in the window set the offset, and outside it
mark the transaction; a STOP ends the mark and a repeated START does not (R175, R176). The record of the
last acknowledgement is the model's (log entry 8). -/
def Obligations.TransactionBytesMoveThePort : Prop :=
  ∀ s : State,
    (∀ read, s.porstn = false →
      exec (.deviceAddress s.port.address read) s = .next { s with port := { s.port with
        transaction := if read then .reading else .writeOffset
        acked := true } }) ∧
    (∀ a read, s.porstn = true ∨ a ≠ s.port.address →
      exec (.deviceAddress a read) s =
        .next { s with port := { s.port with transaction := .idle, acked := false } }) ∧
    (∀ high low : Byte, s.porstn = false → s.port.transaction = .writeOffset →
      (256 * high.toNat + low.toNat ≤ 0x03FF →
        exec (.offset high (some low)) s = .next { s with port := { s.port with
          transaction := .writeData
          acked := true
          offset := BitVec.ofNat 16 (256 * high.toNat + low.toNat)
          outOfWindow := false } }) ∧
      (0x03FF < 256 * high.toNat + low.toNat →
        exec (.offset high (some low)) s = .next { s with port := { s.port with
          transaction := .writeData
          acked := true
          outOfWindow := true } }) ∧
      exec (.offset high none) s = .next { s with port := { s.port with acked := true } }) ∧
    exec (.busStop .stop) s =
      .next { s with port := { s.port with transaction := .idle, outOfWindow := false } } ∧
    exec (.busStop .repeatedStart) s = .next { s with port := { s.port with transaction := .idle } }

/-- A data byte written at the offset: ignored with CONFIG_LOCKED at a locked field, ignored at a read-only field
and at no field; at a single-byte field stored at once, or taken as the event, mask or select byte it is; at a
multi-byte field staged, discarding the bytes staged for another field, and stored with its last byte, the bytes
not written keeping their values (R107, R149, R168, R169, R176, R177, R179, R186; the map is 12.4's). -/
def Obligations.RegisterWriteStagesAndStores : Prop :=
  ∀ (s : State) (b : Byte) (o : Nat), s.port.transaction = .writeData → portTakes s →
    o = s.port.offset.toNat → o ≤ 0x03FF →
    ((∀ x, isRow s x → ¬ x.holds o) → exec (.registerWrite b) s = .next (tookByte s)) ∧
    ∀ x k, isRow s x → x.holds o → k = o - x.offset →
      (x.access = .readOnly → exec (.registerWrite b) s = .next (tookByte s)) ∧
      (x.isLocked s → exec (.registerWrite b) s =
        .next (tookByte { s with port := { s.port with configLocked := true } })) ∧
      (x.field = .eventLow → exec (.registerWrite b) s = exec (.eventRegisterWrite .low b) s) ∧
      (x.field = .eventHigh → exec (.registerWrite b) s = exec (.eventRegisterWrite .high b) s) ∧
      (x.field = .maskLow → exec (.registerWrite b) s = exec (.maskWrite .low b) s) ∧
      (x.field = .maskHigh → exec (.registerWrite b) s = exec (.maskWrite .high b) s) ∧
      (x.field = .inspectSelect → exec (.registerWrite b) s = exec (.inspectionSelect b) s) ∧
      (x.isOpen s → x.bytes = 1 → x.field ≠ .maskLow → x.field ≠ .maskHigh → x.field ≠ .inspectSelect →
        exec (.registerWrite b) s = .next (tookByte (fieldWith s x.field (b.setWidth 64)))) ∧
      ∀ bytes, x.isOpen s → stagedFor s x.field bytes →
        (k + 1 < x.bytes → exec (.registerWrite b) s = .next (tookByte { s with port := { s.port with
          staging := some { field := x.field, bytes := bytes.setIfInBounds k (some b) } } })) ∧
        (k + 1 = x.bytes → 1 < x.bytes → x.field ≠ .command → ∃ v : BitVec 64,
          (∀ j : Fin 8, j.val < x.bytes → v.extractLsb' (8 * j.val) 8 =
            if j.val = k then b
            else (bytes[j]).getD ((BitVec.ofNat 64 x.value).extractLsb' (8 * j.val) 8)) ∧
          exec (.registerWrite b) s = .next (tookByte (fieldWith
            { s with port := { s.port with staging := none } } x.field v)))

/-- A byte written at COMMAND's last byte is the taking of the command of its code, with the ring number staged in
COMMAND's first byte, or the one left from the last command (R144, R186). -/
def Obligations.CommandByteTakesTheCommand : Prop :=
  ∀ (s : State) (b : Byte) (ring : BitVec 4) (c : Instr), portTakes s → s.port.transaction = .writeData →
    s.port.offset = 0x0011 →
    (∃ bytes, stagedFor s .command bytes ∧ ring = match bytes[0] with
      | some low => low.setWidth 4
      | none => s.port.commandRing) →
    ((b = 0x01 ∧ c = .enable ring) ∨ (b = 0x02 ∧ c = .stop ring) ∨ (b = 0x03 ∧ c = .purge ring) ∨
      (b = 0x10 ∧ c = .flushReads ring) ∨ (b = 0x11 ∧ c = .clearCounters ring) ∨
      (b = 0x12 ∧ c = .noticeEnable ring) ∨ (b = 0x13 ∧ c = .noticeDisable ring) ∨
      (b = 0x1F ∧ c = .datapathReset ring) ∨ (b ∉ commandCodes ∧ c = .unknownCommand b ring)) →
    exec (.registerWrite b) s = exec c s

/-- A byte written to the event register clears each flag whose bit is one and changes no other; a byte
written to the mask register replaces its mask bits; ALRT is asserted exactly while a flag is set and
unmasked, and NTFY exactly while the notice queue is enabled and Wd differs from R, whatever the flags and the
masks (R141, R168, R169). That the byte of a named register advances an offset that stands at it, and no other,
is the model's choice (log entry 5). -/
def Obligations.EventAndMaskWritesAct : Prop :=
  ∀ (s : State) (b : Byte), portTakes s →
    (∃ t, exec (.eventRegisterWrite .low b) s = .next t ∧
      t = { s with
        events := { s.events with flags := t.events.flags }
        port := { s.port with
          acked := true
          offset := if s.port.offset = 0x0018 then 0x0019 else s.port.offset } } ∧
      ∀ i, i < 9 → t.events.flags.getLsbD i =
        (s.events.flags.getLsbD i && !(decide (i < 8) && b.getLsbD i))) ∧
    (∃ t, exec (.eventRegisterWrite .high b) s = .next t ∧
      t = { s with
        events := { s.events with flags := t.events.flags }
        port := { s.port with
          acked := true
          offset := if s.port.offset = 0x0019 then 0x001A else s.port.offset } } ∧
      ∀ i, i < 9 → t.events.flags.getLsbD i =
        (s.events.flags.getLsbD i && !(decide (i = 8) && b.getLsbD 0))) ∧
    (∃ t, exec (.maskWrite .low b) s = .next t ∧
      t = { s with
        events := { s.events with masks := t.events.masks }
        port := { s.port with
          acked := true
          offset := if s.port.offset = 0x001A then 0x001B else s.port.offset } } ∧
      ∀ i, i < 9 → t.events.masks.getLsbD i = if i < 8 then b.getLsbD i else s.events.masks.getLsbD i) ∧
    (∃ t, exec (.maskWrite .high b) s = .next t ∧
      t = { s with
        events := { s.events with masks := t.events.masks }
        port := { s.port with
          acked := true
          offset := if s.port.offset = 0x001B then 0x001C else s.port.offset } } ∧
      ∀ i, i < 9 → t.events.masks.getLsbD i = if i = 8 then b.getLsbD 0 else s.events.masks.getLsbD i) ∧
    (s.alrt = true ↔ ∃ i, i < 9 ∧ s.events.flags.getLsbD i = true ∧ s.events.masks.getLsbD i = false) ∧
    (s.ntfy = true ↔ s.notices.enabled = true ∧ s.notices.wd ≠ s.notices.r)

/-- A written inspection select takes a copy of the named record, or of a cleared one where the sector is
not less than the configured sector count (R11, R179). That the byte of a named register advances an offset
that stands at it, and no other, is the model's choice (log entry 5). -/
def Obligations.InspectionCopiesTheRecord : Prop :=
  ∀ (s : State) (r : RingNo) (i : SectorNo), portTakes s →
    exec (.inspectionSelect (BitVec.ofNat 8 (32 * r.val + i.val))) s = .next { s with port := { s.port with
      inspectSelect := BitVec.ofNat 8 (32 * r.val + i.val)
      snapshot := if i.val < (s.cfg r).sectorCount.toNat then s.record r i
        else { state := .free, seq := 0, pending := 0, highWater := 0, length := 0, flags := {}, closeTime := 0 }
      acked := true
      offset := if s.port.offset = 0x0090 then 0x0091 else s.port.offset } }

/-- A byte read at the offset: the lowest byte of a multi-byte field takes a copy of its live value, its other
bytes are sent from the copy while it is held and live otherwise, a byte of a single-byte field or of no field
empties the holding register; out of window every byte is 0xFF; a read of the status byte clears CONFIG_LOCKED
(R176, R178, R180; the map and the values are 12.4's). That the byte of a named register advances an offset that
stands at it, and no other, is the model's choice (log entry 5). -/
def Obligations.BytesAreReadThroughTheCopy : Prop :=
  (∀ (s t : State) (acknowledged : Bool) (o : Nat), s.port.transaction = .reading → s.porstn = false →
    o = s.port.offset.toNat → o ≤ 0x03FF →
    t = { s with port := { s.port with
      transaction := if acknowledged then .reading else .idle
      offset := if s.port.offset = 0x03FF then 0 else s.port.offset + 1 } } →
    (s.port.outOfWindow = true →
      exec (.snapshotRead acknowledged) s = .next { s with port := { s.port with
        transaction := if acknowledged then .reading else .idle
        sent := some 0xFF } }) ∧
    (s.port.outOfWindow = false →
      ((∀ x, isRow s x → ¬ x.holds o) → exec (.snapshotRead acknowledged) s =
        .next { t with port := { t.port with sent := some 0x00, holding := none } }) ∧
      ∀ x k, isRow s x → x.holds o → k = o - x.offset →
        (x.bytes = 1 → exec (.snapshotRead acknowledged) s = .next { t with port := { t.port with
          sent := some (BitVec.ofNat 8 x.value)
          holding := none
          configLocked := if x.field = .status then false else s.port.configLocked } }) ∧
        (1 < x.bytes → k = 0 → exec (.snapshotRead acknowledged) s = .next { t with port := { t.port with
          sent := some (BitVec.ofNat 8 x.value)
          holding := some { field := x.field, value := BitVec.ofNat 64 x.value } } }) ∧
        (1 < x.bytes → k ≠ 0 →
          (∀ v, s.port.holding = some { field := x.field, value := v } →
            exec (.snapshotRead acknowledged) s = .next { t with port := { t.port with
              sent := some (v.extractLsb' (8 * k) 8) } }) ∧
          ((∀ v, s.port.holding ≠ some { field := x.field, value := v }) →
            exec (.snapshotRead acknowledged) s = .next { t with port := { t.port with
              sent := some ((BitVec.ofNat 64 x.value).extractLsb' (8 * k) 8)
              holding := none } })))) ∧
  ∀ (s : State) (acknowledged : Bool), portTakes s →
    exec (.statusByteRead acknowledged) s = .next { s with port := { s.port with
      transaction := if acknowledged then s.port.transaction else .idle
      offset := if s.port.offset = 0 then 1 else s.port.offset
      sent := some ((BitVec.ofBool s.alrt ++ BitVec.ofBool s.ntfy ++ BitVec.ofBool s.lrstn ++
        BitVec.ofBool s.port.configLocked : BitVec 4).setWidth 8)
      holding := none
      configLocked := false } }

/-- While PORSTn is asserted, and in an out-of-window transaction, no byte of a register is taken: it is not
acknowledged and nothing is written; an out-of-window read of the status byte is sent as 0xFF without its side
effect (R175, R176). The choices of the model in it: a register's byte commanded by its row (log entry 5), that
a bus byte in a transaction that cannot bring it is not taken (log entry 5), and the records of the last
acknowledgement and of the last byte sent (log entry 8). -/
def Obligations.DeafPortTakesNoByte : Prop :=
  ∀ s : State,
    (s.porstn = true ∨ s.port.outOfWindow = true → ∀ c : Instr,
      (∃ ring, c = .enable ring ∨ c = .stop ring ∨ c = .purge ring ∨ c = .flushReads ring ∨
          c = .clearCounters ring ∨ c = .noticeEnable ring ∨ c = .noticeDisable ring ∨ c = .datapathReset ring ∨
          ∃ code, c = .unknownCommand code ring) ∨
        (∃ half b, c = .eventRegisterWrite half b ∨ c = .maskWrite half b) ∨
        (∃ b, c = .inspectionSelect b ∨ c = .registerWrite b) →
      exec c s = .next { s with port := { s.port with acked := false } }) ∧
    (s.port.transaction ≠ .writeData → ∀ b,
      exec (.registerWrite b) s = .next { s with port := { s.port with acked := false } }) ∧
    (s.porstn = true ∨ s.port.transaction ≠ .writeOffset → ∀ high low,
      exec (.offset high low) s = .next { s with port := { s.port with acked := false } }) ∧
    (s.porstn = true ∨ s.port.transaction ≠ .reading → ∀ acknowledged,
      exec (.snapshotRead acknowledged) s = .next { s with port := { s.port with sent := none } }) ∧
    (s.porstn = true → ∀ acknowledged,
      exec (.statusByteRead acknowledged) s = .next { s with port := { s.port with sent := none } }) ∧
    (s.porstn = false → s.port.outOfWindow = true → ∀ acknowledged,
      exec (.statusByteRead acknowledged) s = .next { s with port := { s.port with
        sent := some 0xFF
        transaction := if acknowledged then s.port.transaction else .idle } })

/-! ### Laws of the whole part -/

/-- The part right after power-on meets every invariant stated below. -/
def Obligations.ResetMeetsTheInvariants : Prop :=
  Bounded State.reset ∧ Consistent State.reset ∧ SlotsAgree State.reset ∧ ReadsWait State.reset ∧
    IndicesAgree State.reset ∧ TaggedReadsReady State.reset ∧ WindowsApart State.reset ∧
    TimersRun State.reset ∧ Drained State.reset

/-- Every step keeps the limits of the collections and the offset in the window (R74, R93, R135, R176). -/
def Obligations.BoundedKept : Prop :=
  ∀ s t : State, Bounded s → step s = .next t → Bounded t

/-- Every step keeps the agreement of the rings, their sectors and the queue: the pending counts, the decode
entries, the fill states and the sectors of OFF and PURGING rings (R3, R22, R27, R30). -/
def Obligations.ConsistentKept : Prop :=
  ∀ s t : State, Consistent s → step s = .next t → Consistent t

/-- Every step keeps the agreement of the slots with their owners (R83, R94, R114). -/
def Obligations.SlotsAgreeKept : Prop :=
  ∀ s t : State, SlotsAgree s → step s = .next t → SlotsAgree t

/-- Every step keeps each read behind exactly the queued writes of its line, so that no data answered lacks a
queued write (R98, R99). -/
def Obligations.ReadsWaitKept : Prop :=
  ∀ s t : State, ReadsWait s → step s = .next t → ReadsWait t

/-- Every step keeps the indices of the notice queue in their order and within its slots (R128, R137, R140). -/
def Obligations.IndicesAgreeKept : Prop :=
  ∀ s t : State, IndicesAgree s → step s = .next t → IndicesAgree t

/-- Every step keeps the tagged reads in READY sectors, so that consumers and monitors are answered DATA only while
the sector is READY (R59). -/
def Obligations.TaggedReadsReadyKept : Prop :=
  ∀ s t : State, Consistent s → TaggedReadsReady s → step s = .next t → TaggedReadsReady t

/-- Every step keeps the decoded ranges apart: no byte lies in two of them (R2, R147). -/
def Obligations.WindowsApartKept : Prop :=
  ∀ s t : State, WindowsApart s → step s = .next t → WindowsApart t

/-- Every step keeps each fill timer running exactly while a message or a shadow is open and a timeout is set, and
the fill pointer of a ring that is not OFF among its sectors (R28, R48). -/
def Obligations.TimersRunKept : Prop :=
  ∀ s t : State, Consistent s → TimersRun s → step s = .next t → TimersRun t

/-- Every step takes at once what it must: no retirement, no STOPPING ring that meets the test for OFF and no
emptied PURGING ring is left behind (R90, R151, R153). -/
def Obligations.DrainedKept : Prop :=
  ∀ s t : State, Consistent s → Drained s → step s = .next t → Drained t

/-- The Posted Write Queue keeps the order of acceptance: at every command its writes are the old ones without some
at the head, and at most one new write behind them (R74, R84). -/
def Obligations.QueueIsFirstInFirstOut : Prop :=
  ∀ (s t : State) (c : Instr), exec c s = .next t → ∃ n new, new.length ≤ 1 ∧
    t.pwq.map (fun e => (e.address, e.words, e.kind)) =
      (s.pwq.map fun e => (e.address, e.words, e.kind)).drop n ++ new

/-- State changes only at its own commands: the timestamp, the ring configurations, the notice-queue
configuration, the discard time, the attempt budget, the backoff, the masks, the device address, the reset lines
and the notice enable; an event flag is set only by the commands that bring its condition, and a set one is
cleared only by software or a reset (R1, R107, R124, R129, R149, R167, R168, R169, R175, R182). -/
def Obligations.OnlyTheirOwnCommandsChange : Prop :=
  ∀ (s t : State) (c : Instr), c.wellFormed = true → exec c s = .next t →
    (t.timestamp ≠ s.timestamp → c = .tick ∨ ∃ ma, c = .porstnNegated ma) ∧
    (t.config ≠ s.config ∨ t.notices.base ≠ s.notices.base ∨ t.notices.returnAddress ≠ s.notices.returnAddress ∨
        t.notices.slotCode ≠ s.notices.slotCode ∨ t.discardTime ≠ s.discardTime ∨
        t.link.budget ≠ s.link.budget ∨ t.link.backoff ≠ s.link.backoff →
      (∃ b, c = .registerWrite b) ∨ ∃ ma, c = .porstnNegated ma) ∧
    (t.events.masks ≠ s.events.masks →
      (∃ half b, c = .maskWrite half b) ∨ (∃ b, c = .registerWrite b) ∨ ∃ ma, c = .porstnNegated ma) ∧
    (t.port.address ≠ s.port.address → ∃ ma, c = .porstnNegated ma) ∧
    (t.lrstn ≠ s.lrstn → c = .lrstnAsserted ∨ c = .lrstnNegated) ∧
    (t.porstn ≠ s.porstn → c = .porstnAsserted ∨ ∃ ma, c = .porstnNegated ma) ∧
    (t.notices.enabled ≠ s.notices.enabled →
      (∃ ring, c = .noticeEnable ring) ∨ (∃ ring, c = .noticeDisable ring) ∨ (∃ b, c = .registerWrite b) ∨
        ∃ ma, c = .porstnNegated ma) ∧
    (∀ i, s.events.flags.getLsbD i = false → t.events.flags.getLsbD i = true →
      match i with
      | 0 => (∃ tag kind, c = .errorResponse tag kind) ∨ ∃ tag, c = .busyResponse tag
      | 1 => ∃ tag kind, c = .errorResponse tag kind
      | 2 => ∃ k, c = .discardTimerExpiry k
      | 3 => (∃ q, c = .writeArrival q) ∨ (∃ tag data, c = .okayResponse tag data) ∨
          (∃ tag kind, c = .errorResponse tag kind) ∨ (∃ tag, c = .busyResponse tag) ∨
          (∃ r, c = .fillTimerExpiry r) ∨ c = .lrstnAsserted ∨ (∃ ring, c = .stop ring) ∨
          (∃ ring, c = .purge ring) ∨ ∃ b, c = .registerWrite b
      | 4 => (∃ tag kind, c = .errorResponse tag kind) ∨ ∃ tag, c = .busyResponse tag
      | 5 => ∃ q, c = .writeArrival q
      | 6 => ∃ r, c = .fillTimerExpiry r
      | 7 => c = .lrstnAsserted
      | _ => (∃ q, c = .writeArrival q) ∨ ∃ k, c = .readArrival k) ∧
    (∀ i, s.events.flags.getLsbD i = true → t.events.flags.getLsbD i = false →
      (∃ half b, c = .eventRegisterWrite half b) ∨ (∃ b, c = .registerWrite b) ∨
        (∃ ring, c = .datapathReset ring) ∨ ∃ ma, c = .porstnNegated ma)
end

