-- ==== Sys2Proof/Laws/Checks.lean ====
section
/-! SUPPORT. The model's checks, said as the statements say them: those of ENABLE and NOTICE_ENABLE over the
bytes that two ranges share and over the fields of a configuration, and that of a head to be retired. -/

namespace Sys2Proof.Laws

open Sys2Proof.Machine Sys2Proof.Safety

/-- Two ranges meet exactly where some byte lies in both. -/
theorem rangesMeet_iff (a la b lb : Nat) :
    rangesMeet a la b lb = true ↔ ∃ x, (a ≤ x ∧ x < a + la) ∧ (b ≤ x ∧ x < b + lb) := by
  simp only [rangesMeet, Bool.and_eq_true, decide_eq_true_eq]
  constructor
  · intro h
    exact ⟨max a b, by omega, by omega⟩
  · rintro ⟨x, h⟩
    omega

theorem mem_allRings (r : RingNo) : r ∈ allRings := by
  revert r
  decide

/-- A range meets the window of a ring exactly where some byte lies in it and in a decoded window (R147). -/
theorem windowMeetsRing_iff (s : State) (a la : Nat) :
    s.windowMeetsRing a la = true ↔
      ∃ b, (a ≤ b ∧ b < a + la) ∧ ∃ r d, s.window r = some d ∧ inWindow d b := by
  simp only [State.windowMeetsRing, List.any_eq_true]
  constructor
  · rintro ⟨r, _, h⟩
    cases hd : s.window r with
    | none => simp [hd] at h
    | some d =>
      simp only [hd, rangesMeet_iff] at h
      obtain ⟨x, h1, h2⟩ := h
      exact ⟨x, h1, r, d, hd, h2⟩
  · rintro ⟨x, h1, r, d, hd, h2⟩
    refine ⟨r, mem_allRings r, ?_⟩
    simp only [hd, rangesMeet_iff]
    exact ⟨x, h1, h2⟩

/-- The OVERLAP check of ENABLE (R147). -/
theorem enableOverlaps_iff (s : State) (r : RingNo) : s.enableOverlaps r = true ↔ configOverlaps s r := by
  simp only [State.enableOverlaps, NoticeUnit.meets, Bool.or_eq_true, windowMeetsRing_iff, rangesMeet_iff,
    configOverlaps]
  constructor
  · rintro (⟨b, h1, h⟩ | ⟨b, h1, h⟩ | ⟨b, h1, h⟩)
    · exact ⟨b, h1, .inl h⟩
    · exact ⟨b, h1, .inr (.inl h)⟩
    · exact ⟨b, h1, .inr (.inr h)⟩
  · rintro ⟨b, h1, h | h | h⟩
    · exact .inl ⟨b, h1, h⟩
    · exact .inr (.inl ⟨b, h1, h⟩)
    · exact .inr (.inr ⟨b, h1, h⟩)

/-- The OVERLAP check of NOTICE_ENABLE (R130). -/
theorem noticeOverlaps_iff (s : State) : s.noticeOverlaps = true ↔ noticeConfigOverlaps s := by
  simp only [State.noticeOverlaps, Bool.or_eq_true, windowMeetsRing_iff, noticeConfigOverlaps]
  constructor
  · rintro (⟨b, h1, r, d, h, hh⟩ | ⟨b, h1, r, d, h, hh⟩)
    · exact ⟨b, r, d, h, hh, .inl h1⟩
    · exact ⟨b, r, d, h, hh, .inr h1⟩
  · rintro ⟨b, r, d, h, hh, h1 | h1⟩
    · exact .inl ⟨b, h1, r, d, h, hh⟩
    · exact .inr ⟨b, h1, r, d, h, hh⟩

theorem sectorSize_eq {c : RingConfig} (h : c.sizeCode.toNat ≤ 6) :
    c.sectorSize = 256 * 2 ^ c.sizeCode.toNat := by
  simp [RingConfig.sectorSize, sectorSizeOf, h]

/-- The BAD_CONFIG check of ENABLE (R146). -/
theorem ringConfig_valid_iff (c : RingConfig) : c.valid = true ↔ validConfig c := by
  simp only [RingConfig.valid, validConfig, Bool.and_eq_true, decide_eq_true_eq, Bool.or_eq_true,
    Bool.not_eq_true', RingConfig.isHeader, RingConfig.isMarker, RingConfig.backpressures,
    RingConfig.discards, sectorSizeOf]
  by_cases h : c.sizeCode.toNat ≤ 6
  · simp only [h, if_true, Option.isSome_some, true_and, RingConfig.windowBytes, sectorSize_eq h]
    have h2 : 0 < 2 ^ c.sizeCode.toNat := Nat.pos_of_ne_zero (by simp)
    constructor
    · rintro ⟨⟨⟨⟨⟨⟨⟨⟨a, b⟩, c1⟩, d⟩, e⟩, f⟩, g⟩, i⟩, j⟩
      refine ⟨a, b, c1, ?_, e, f, g, i, j⟩
      omega
    · rintro ⟨a, b, c1, d, e, f, g, i, j⟩
      refine ⟨⟨⟨⟨⟨⟨⟨⟨a, b⟩, c1⟩, ?_⟩, e⟩, f⟩, g⟩, i⟩, j⟩
      have h3 : 0 < 256 * 2 ^ c.sizeCode.toNat * c.sectorCount.toNat := Nat.mul_pos (by omega) (by omega)
      omega
  · simp [h]

theorem slots_eq {n : NoticeUnit} (h : n.slotCode.toNat ≤ 6) : n.slots = 16 * 2 ^ n.slotCode.toNat := by
  simp [NoticeUnit.slots, slotCountOf, h]

/-- The BAD_CONFIG check of NOTICE_ENABLE (R130). -/
theorem noticeUnit_valid_iff (n : NoticeUnit) : n.valid = true ↔ validNoticeConfig n := by
  simp only [NoticeUnit.valid, validNoticeConfig, Bool.and_eq_true, decide_eq_true_eq, Bool.not_eq_true',
    ← Bool.not_eq_true, rangesMeet_iff, slotCountOf]
  by_cases h : n.slotCode.toNat ≤ 6
  · simp only [h, if_true, Option.isSome_some, true_and, NoticeUnit.windowBytes, slots_eq h, inNoticeWindow,
      inReturnWord]
    constructor
    · rintro ⟨⟨a, b⟩, c⟩
      exact ⟨a, b, fun ⟨x, h1, h2⟩ => c ⟨x, h2, h1⟩⟩
    · rintro ⟨a, b, c⟩
      exact ⟨⟨a, b⟩, fun ⟨x, h1, h2⟩ => c ⟨x, h2, h1⟩⟩
  · simp [h]

/-- A head is to be retired exactly where the entry at the head is a FILL or CLOSE of a PURGING sector (R90). -/
theorem headIsPurged_iff (s : State) (q : List QueueEntry) :
    ({ s with pwq := q } : State).headIsPurged = true ↔ retires s q := by
  unfold State.headIsPurged retires
  cases q with
  | nil => simp
  | cons e q =>
    obtain ⟨_, _, k, _⟩ := e
    cases k <;> simp
    all_goals exact Iff.rfl

end Sys2Proof.Laws
end

