-- ==== Sys2Proof/Laws/State.lean ====
section
/-! SUPPORT. What each named update of the state leaves in each field: one lemma for each field, true by
definition. -/

namespace Sys2Proof.Laws

open Sys2Proof.Machine

/-! ### post -/

@[simp] theorem post_pending (s : State) (f : EventFlag) : (s.post f).pending = s.pending := rfl
@[simp] theorem post_orderChoice (s : State) (f : EventFlag) : (s.post f).orderChoice = s.orderChoice := rfl
@[simp] theorem post_porstn (s : State) (f : EventFlag) : (s.post f).porstn = s.porstn := rfl
@[simp] theorem post_lrstn (s : State) (f : EventFlag) : (s.post f).lrstn = s.lrstn := rfl
@[simp] theorem post_hostResponse (s : State) (f : EventFlag) : (s.post f).hostResponse = s.hostResponse := rfl
@[simp] theorem post_decode (s : State) (f : EventFlag) : (s.post f).decode = s.decode := rfl
@[simp] theorem post_config (s : State) (f : EventFlag) : (s.post f).config = s.config := rfl
@[simp] theorem post_rings (s : State) (f : EventFlag) : (s.post f).rings = s.rings := rfl
@[simp] theorem post_sectors (s : State) (f : EventFlag) : (s.post f).sectors = s.sectors := rfl
@[simp] theorem post_pwq (s : State) (f : EventFlag) : (s.post f).pwq = s.pwq := rfl
@[simp] theorem post_headIssue (s : State) (f : EventFlag) : (s.post f).headIssue = s.headIssue := rfl
@[simp] theorem post_reads (s : State) (f : EventFlag) : (s.post f).reads = s.reads := rfl
@[simp] theorem post_discardTime (s : State) (f : EventFlag) : (s.post f).discardTime = s.discardTime := rfl
@[simp] theorem post_notices (s : State) (f : EventFlag) : (s.post f).notices = s.notices := rfl
@[simp] theorem post_link (s : State) (f : EventFlag) : (s.post f).link = s.link := rfl
@[simp] theorem post_events (s : State) (f : EventFlag) : (s.post f).events = { s.events with flags := s.events.flags ||| f.mask } := rfl
@[simp] theorem post_timestamp (s : State) (f : EventFlag) : (s.post f).timestamp = s.timestamp := rfl
@[simp] theorem post_port (s : State) (f : EventFlag) : (s.post f).port = s.port := rfl
@[simp] theorem post_ring (s : State) (f : EventFlag) (r₀ : RingNo) : (s.post f).ring r₀ = s.ring r₀ := rfl
@[simp] theorem post_cfg (s : State) (f : EventFlag) (r₀ : RingNo) : (s.post f).cfg r₀ = s.cfg r₀ := rfl
@[simp] theorem post_window (s : State) (f : EventFlag) (r₀ : RingNo) : (s.post f).window r₀ = s.window r₀ := rfl
@[simp] theorem post_record (s : State) (f : EventFlag) (r₀ : RingNo) (i₀ : SectorNo) : (s.post f).record r₀ i₀ = s.record r₀ i₀ := rfl

/-! ### setCounters -/

@[simp] theorem setCounters_pending (s : State) (c : DeviceCounters) : (s.setCounters c).pending = s.pending := rfl
@[simp] theorem setCounters_orderChoice (s : State) (c : DeviceCounters) : (s.setCounters c).orderChoice = s.orderChoice := rfl
@[simp] theorem setCounters_porstn (s : State) (c : DeviceCounters) : (s.setCounters c).porstn = s.porstn := rfl
@[simp] theorem setCounters_lrstn (s : State) (c : DeviceCounters) : (s.setCounters c).lrstn = s.lrstn := rfl
@[simp] theorem setCounters_hostResponse (s : State) (c : DeviceCounters) : (s.setCounters c).hostResponse = s.hostResponse := rfl
@[simp] theorem setCounters_decode (s : State) (c : DeviceCounters) : (s.setCounters c).decode = s.decode := rfl
@[simp] theorem setCounters_config (s : State) (c : DeviceCounters) : (s.setCounters c).config = s.config := rfl
@[simp] theorem setCounters_rings (s : State) (c : DeviceCounters) : (s.setCounters c).rings = s.rings := rfl
@[simp] theorem setCounters_sectors (s : State) (c : DeviceCounters) : (s.setCounters c).sectors = s.sectors := rfl
@[simp] theorem setCounters_pwq (s : State) (c : DeviceCounters) : (s.setCounters c).pwq = s.pwq := rfl
@[simp] theorem setCounters_headIssue (s : State) (c : DeviceCounters) : (s.setCounters c).headIssue = s.headIssue := rfl
@[simp] theorem setCounters_reads (s : State) (c : DeviceCounters) : (s.setCounters c).reads = s.reads := rfl
@[simp] theorem setCounters_discardTime (s : State) (c : DeviceCounters) : (s.setCounters c).discardTime = s.discardTime := rfl
@[simp] theorem setCounters_notices (s : State) (c : DeviceCounters) : (s.setCounters c).notices = s.notices := rfl
@[simp] theorem setCounters_link (s : State) (c : DeviceCounters) : (s.setCounters c).link = s.link := rfl
@[simp] theorem setCounters_events (s : State) (c : DeviceCounters) : (s.setCounters c).events = { s.events with counters := c } := rfl
@[simp] theorem setCounters_timestamp (s : State) (c : DeviceCounters) : (s.setCounters c).timestamp = s.timestamp := rfl
@[simp] theorem setCounters_port (s : State) (c : DeviceCounters) : (s.setCounters c).port = s.port := rfl
@[simp] theorem setCounters_ring (s : State) (c : DeviceCounters) (r₀ : RingNo) : (s.setCounters c).ring r₀ = s.ring r₀ := rfl
@[simp] theorem setCounters_cfg (s : State) (c : DeviceCounters) (r₀ : RingNo) : (s.setCounters c).cfg r₀ = s.cfg r₀ := rfl
@[simp] theorem setCounters_window (s : State) (c : DeviceCounters) (r₀ : RingNo) : (s.setCounters c).window r₀ = s.window r₀ := rfl
@[simp] theorem setCounters_record (s : State) (c : DeviceCounters) (r₀ : RingNo) (i₀ : SectorNo) : (s.setCounters c).record r₀ i₀ = s.record r₀ i₀ := rfl

/-! ### setRing -/

@[simp] theorem setRing_pending (s : State) (r : RingNo) (x : RingState) : (s.setRing r x).pending = s.pending := rfl
@[simp] theorem setRing_orderChoice (s : State) (r : RingNo) (x : RingState) : (s.setRing r x).orderChoice = s.orderChoice := rfl
@[simp] theorem setRing_porstn (s : State) (r : RingNo) (x : RingState) : (s.setRing r x).porstn = s.porstn := rfl
@[simp] theorem setRing_lrstn (s : State) (r : RingNo) (x : RingState) : (s.setRing r x).lrstn = s.lrstn := rfl
@[simp] theorem setRing_hostResponse (s : State) (r : RingNo) (x : RingState) : (s.setRing r x).hostResponse = s.hostResponse := rfl
@[simp] theorem setRing_decode (s : State) (r : RingNo) (x : RingState) : (s.setRing r x).decode = s.decode := rfl
@[simp] theorem setRing_config (s : State) (r : RingNo) (x : RingState) : (s.setRing r x).config = s.config := rfl
@[simp] theorem setRing_rings (s : State) (r : RingNo) (x : RingState) : (s.setRing r x).rings = s.rings.set r x := rfl
@[simp] theorem setRing_sectors (s : State) (r : RingNo) (x : RingState) : (s.setRing r x).sectors = s.sectors := rfl
@[simp] theorem setRing_pwq (s : State) (r : RingNo) (x : RingState) : (s.setRing r x).pwq = s.pwq := rfl
@[simp] theorem setRing_headIssue (s : State) (r : RingNo) (x : RingState) : (s.setRing r x).headIssue = s.headIssue := rfl
@[simp] theorem setRing_reads (s : State) (r : RingNo) (x : RingState) : (s.setRing r x).reads = s.reads := rfl
@[simp] theorem setRing_discardTime (s : State) (r : RingNo) (x : RingState) : (s.setRing r x).discardTime = s.discardTime := rfl
@[simp] theorem setRing_notices (s : State) (r : RingNo) (x : RingState) : (s.setRing r x).notices = s.notices := rfl
@[simp] theorem setRing_link (s : State) (r : RingNo) (x : RingState) : (s.setRing r x).link = s.link := rfl
@[simp] theorem setRing_events (s : State) (r : RingNo) (x : RingState) : (s.setRing r x).events = s.events := rfl
@[simp] theorem setRing_timestamp (s : State) (r : RingNo) (x : RingState) : (s.setRing r x).timestamp = s.timestamp := rfl
@[simp] theorem setRing_port (s : State) (r : RingNo) (x : RingState) : (s.setRing r x).port = s.port := rfl
@[simp] theorem setRing_cfg (s : State) (r : RingNo) (x : RingState) (r₀ : RingNo) : (s.setRing r x).cfg r₀ = s.cfg r₀ := rfl
@[simp] theorem setRing_window (s : State) (r : RingNo) (x : RingState) (r₀ : RingNo) : (s.setRing r x).window r₀ = s.window r₀ := rfl
@[simp] theorem setRing_record (s : State) (r : RingNo) (x : RingState) (r₀ : RingNo) (i₀ : SectorNo) : (s.setRing r x).record r₀ i₀ = s.record r₀ i₀ := rfl

/-! ### setRecord -/

@[simp] theorem setRecord_pending (s : State) (r : RingNo) (i : SectorNo) (x : SectorRecord) : (s.setRecord r i x).pending = s.pending := rfl
@[simp] theorem setRecord_orderChoice (s : State) (r : RingNo) (i : SectorNo) (x : SectorRecord) : (s.setRecord r i x).orderChoice = s.orderChoice := rfl
@[simp] theorem setRecord_porstn (s : State) (r : RingNo) (i : SectorNo) (x : SectorRecord) : (s.setRecord r i x).porstn = s.porstn := rfl
@[simp] theorem setRecord_lrstn (s : State) (r : RingNo) (i : SectorNo) (x : SectorRecord) : (s.setRecord r i x).lrstn = s.lrstn := rfl
@[simp] theorem setRecord_hostResponse (s : State) (r : RingNo) (i : SectorNo) (x : SectorRecord) : (s.setRecord r i x).hostResponse = s.hostResponse := rfl
@[simp] theorem setRecord_decode (s : State) (r : RingNo) (i : SectorNo) (x : SectorRecord) : (s.setRecord r i x).decode = s.decode := rfl
@[simp] theorem setRecord_config (s : State) (r : RingNo) (i : SectorNo) (x : SectorRecord) : (s.setRecord r i x).config = s.config := rfl
@[simp] theorem setRecord_rings (s : State) (r : RingNo) (i : SectorNo) (x : SectorRecord) : (s.setRecord r i x).rings = s.rings := rfl
@[simp] theorem setRecord_sectors (s : State) (r : RingNo) (i : SectorNo) (x : SectorRecord) : (s.setRecord r i x).sectors = s.sectors.set r (s.sectors[r].set i x) := rfl
@[simp] theorem setRecord_pwq (s : State) (r : RingNo) (i : SectorNo) (x : SectorRecord) : (s.setRecord r i x).pwq = s.pwq := rfl
@[simp] theorem setRecord_headIssue (s : State) (r : RingNo) (i : SectorNo) (x : SectorRecord) : (s.setRecord r i x).headIssue = s.headIssue := rfl
@[simp] theorem setRecord_reads (s : State) (r : RingNo) (i : SectorNo) (x : SectorRecord) : (s.setRecord r i x).reads = s.reads := rfl
@[simp] theorem setRecord_discardTime (s : State) (r : RingNo) (i : SectorNo) (x : SectorRecord) : (s.setRecord r i x).discardTime = s.discardTime := rfl
@[simp] theorem setRecord_notices (s : State) (r : RingNo) (i : SectorNo) (x : SectorRecord) : (s.setRecord r i x).notices = s.notices := rfl
@[simp] theorem setRecord_link (s : State) (r : RingNo) (i : SectorNo) (x : SectorRecord) : (s.setRecord r i x).link = s.link := rfl
@[simp] theorem setRecord_events (s : State) (r : RingNo) (i : SectorNo) (x : SectorRecord) : (s.setRecord r i x).events = s.events := rfl
@[simp] theorem setRecord_timestamp (s : State) (r : RingNo) (i : SectorNo) (x : SectorRecord) : (s.setRecord r i x).timestamp = s.timestamp := rfl
@[simp] theorem setRecord_port (s : State) (r : RingNo) (i : SectorNo) (x : SectorRecord) : (s.setRecord r i x).port = s.port := rfl
@[simp] theorem setRecord_ring (s : State) (r : RingNo) (i : SectorNo) (x : SectorRecord) (r₀ : RingNo) : (s.setRecord r i x).ring r₀ = s.ring r₀ := rfl
@[simp] theorem setRecord_cfg (s : State) (r : RingNo) (i : SectorNo) (x : SectorRecord) (r₀ : RingNo) : (s.setRecord r i x).cfg r₀ = s.cfg r₀ := rfl
@[simp] theorem setRecord_window (s : State) (r : RingNo) (i : SectorNo) (x : SectorRecord) (r₀ : RingNo) : (s.setRecord r i x).window r₀ = s.window r₀ := rfl

/-! ### respond -/

@[simp] theorem respond_pending (s : State) (x : HostResponse) : (s.respond x).pending = s.pending := rfl
@[simp] theorem respond_orderChoice (s : State) (x : HostResponse) : (s.respond x).orderChoice = s.orderChoice := rfl
@[simp] theorem respond_porstn (s : State) (x : HostResponse) : (s.respond x).porstn = s.porstn := rfl
@[simp] theorem respond_lrstn (s : State) (x : HostResponse) : (s.respond x).lrstn = s.lrstn := rfl
@[simp] theorem respond_hostResponse (s : State) (x : HostResponse) : (s.respond x).hostResponse = some x := rfl
@[simp] theorem respond_decode (s : State) (x : HostResponse) : (s.respond x).decode = s.decode := rfl
@[simp] theorem respond_config (s : State) (x : HostResponse) : (s.respond x).config = s.config := rfl
@[simp] theorem respond_rings (s : State) (x : HostResponse) : (s.respond x).rings = s.rings := rfl
@[simp] theorem respond_sectors (s : State) (x : HostResponse) : (s.respond x).sectors = s.sectors := rfl
@[simp] theorem respond_pwq (s : State) (x : HostResponse) : (s.respond x).pwq = s.pwq := rfl
@[simp] theorem respond_headIssue (s : State) (x : HostResponse) : (s.respond x).headIssue = s.headIssue := rfl
@[simp] theorem respond_reads (s : State) (x : HostResponse) : (s.respond x).reads = s.reads := rfl
@[simp] theorem respond_discardTime (s : State) (x : HostResponse) : (s.respond x).discardTime = s.discardTime := rfl
@[simp] theorem respond_notices (s : State) (x : HostResponse) : (s.respond x).notices = s.notices := rfl
@[simp] theorem respond_link (s : State) (x : HostResponse) : (s.respond x).link = s.link := rfl
@[simp] theorem respond_events (s : State) (x : HostResponse) : (s.respond x).events = s.events := rfl
@[simp] theorem respond_timestamp (s : State) (x : HostResponse) : (s.respond x).timestamp = s.timestamp := rfl
@[simp] theorem respond_port (s : State) (x : HostResponse) : (s.respond x).port = s.port := rfl
@[simp] theorem respond_ring (s : State) (x : HostResponse) (r₀ : RingNo) : (s.respond x).ring r₀ = s.ring r₀ := rfl
@[simp] theorem respond_cfg (s : State) (x : HostResponse) (r₀ : RingNo) : (s.respond x).cfg r₀ = s.cfg r₀ := rfl
@[simp] theorem respond_window (s : State) (x : HostResponse) (r₀ : RingNo) : (s.respond x).window r₀ = s.window r₀ := rfl
@[simp] theorem respond_record (s : State) (x : HostResponse) (r₀ : RingNo) (i₀ : SectorNo) : (s.respond x).record r₀ i₀ = s.record r₀ i₀ := rfl

/-! ### enqueue -/

@[simp] theorem enqueue_pending (s : State) (e : QueueEntry) : (s.enqueue e).pending = s.pending := rfl
@[simp] theorem enqueue_orderChoice (s : State) (e : QueueEntry) : (s.enqueue e).orderChoice = s.orderChoice := rfl
@[simp] theorem enqueue_porstn (s : State) (e : QueueEntry) : (s.enqueue e).porstn = s.porstn := rfl
@[simp] theorem enqueue_lrstn (s : State) (e : QueueEntry) : (s.enqueue e).lrstn = s.lrstn := rfl
@[simp] theorem enqueue_hostResponse (s : State) (e : QueueEntry) : (s.enqueue e).hostResponse = s.hostResponse := rfl
@[simp] theorem enqueue_decode (s : State) (e : QueueEntry) : (s.enqueue e).decode = s.decode := rfl
@[simp] theorem enqueue_config (s : State) (e : QueueEntry) : (s.enqueue e).config = s.config := rfl
@[simp] theorem enqueue_rings (s : State) (e : QueueEntry) : (s.enqueue e).rings = s.rings := rfl
@[simp] theorem enqueue_sectors (s : State) (e : QueueEntry) : (s.enqueue e).sectors = s.sectors := rfl
@[simp] theorem enqueue_pwq (s : State) (e : QueueEntry) : (s.enqueue e).pwq = s.pwq ++ [e] := rfl
@[simp] theorem enqueue_headIssue (s : State) (e : QueueEntry) : (s.enqueue e).headIssue = s.headIssueAfterJoin := rfl
@[simp] theorem enqueue_reads (s : State) (e : QueueEntry) : (s.enqueue e).reads = s.reads.map fun x => x.overlap e.line (s.pwq ++ [e]) := rfl
@[simp] theorem enqueue_discardTime (s : State) (e : QueueEntry) : (s.enqueue e).discardTime = s.discardTime := rfl
@[simp] theorem enqueue_notices (s : State) (e : QueueEntry) : (s.enqueue e).notices = s.notices := rfl
@[simp] theorem enqueue_link (s : State) (e : QueueEntry) : (s.enqueue e).link = s.link := rfl
@[simp] theorem enqueue_events (s : State) (e : QueueEntry) : (s.enqueue e).events = s.events := rfl
@[simp] theorem enqueue_timestamp (s : State) (e : QueueEntry) : (s.enqueue e).timestamp = s.timestamp := rfl
@[simp] theorem enqueue_port (s : State) (e : QueueEntry) : (s.enqueue e).port = s.port := rfl
@[simp] theorem enqueue_ring (s : State) (e : QueueEntry) (r₀ : RingNo) : (s.enqueue e).ring r₀ = s.ring r₀ := rfl
@[simp] theorem enqueue_cfg (s : State) (e : QueueEntry) (r₀ : RingNo) : (s.enqueue e).cfg r₀ = s.cfg r₀ := rfl
@[simp] theorem enqueue_window (s : State) (e : QueueEntry) (r₀ : RingNo) : (s.enqueue e).window r₀ = s.window r₀ := rfl
@[simp] theorem enqueue_record (s : State) (e : QueueEntry) (r₀ : RingNo) (i₀ : SectorNo) : (s.enqueue e).record r₀ i₀ = s.record r₀ i₀ := rfl

/-! ### dropHead -/

@[simp] theorem dropHead_pending (s : State) : (s.dropHead).pending = s.pending := rfl
@[simp] theorem dropHead_orderChoice (s : State) : (s.dropHead).orderChoice = s.orderChoice := rfl
@[simp] theorem dropHead_porstn (s : State) : (s.dropHead).porstn = s.porstn := rfl
@[simp] theorem dropHead_lrstn (s : State) : (s.dropHead).lrstn = s.lrstn := rfl
@[simp] theorem dropHead_hostResponse (s : State) : (s.dropHead).hostResponse = s.hostResponse := rfl
@[simp] theorem dropHead_decode (s : State) : (s.dropHead).decode = s.decode := rfl
@[simp] theorem dropHead_config (s : State) : (s.dropHead).config = s.config := rfl
@[simp] theorem dropHead_rings (s : State) : (s.dropHead).rings = s.rings := rfl
@[simp] theorem dropHead_sectors (s : State) : (s.dropHead).sectors = s.sectors := rfl
@[simp] theorem dropHead_pwq (s : State) : (s.dropHead).pwq = s.pwq.tail := rfl
@[simp] theorem dropHead_headIssue (s : State) : (s.dropHead).headIssue = .waiting := rfl
@[simp] theorem dropHead_reads (s : State) : (s.dropHead).reads = s.reads.map ReadEntry.headLeft := rfl
@[simp] theorem dropHead_discardTime (s : State) : (s.dropHead).discardTime = s.discardTime := rfl
@[simp] theorem dropHead_notices (s : State) : (s.dropHead).notices = s.notices := rfl
@[simp] theorem dropHead_link (s : State) : (s.dropHead).link = s.link := rfl
@[simp] theorem dropHead_events (s : State) : (s.dropHead).events = s.events := rfl
@[simp] theorem dropHead_timestamp (s : State) : (s.dropHead).timestamp = s.timestamp := rfl
@[simp] theorem dropHead_port (s : State) : (s.dropHead).port = s.port := rfl
@[simp] theorem dropHead_ring (s : State) (r₀ : RingNo) : (s.dropHead).ring r₀ = s.ring r₀ := rfl
@[simp] theorem dropHead_cfg (s : State) (r₀ : RingNo) : (s.dropHead).cfg r₀ = s.cfg r₀ := rfl
@[simp] theorem dropHead_window (s : State) (r₀ : RingNo) : (s.dropHead).window r₀ = s.window r₀ := rfl
@[simp] theorem dropHead_record (s : State) (r₀ : RingNo) (i₀ : SectorNo) : (s.dropHead).record r₀ i₀ = s.record r₀ i₀ := rfl

/-! ### freeReads -/

@[simp] theorem freeReads_pending (s : State) (p : ReadEntry → Bool) : (s.freeReads p).pending = s.pending := rfl
@[simp] theorem freeReads_orderChoice (s : State) (p : ReadEntry → Bool) : (s.freeReads p).orderChoice = s.orderChoice := rfl
@[simp] theorem freeReads_porstn (s : State) (p : ReadEntry → Bool) : (s.freeReads p).porstn = s.porstn := rfl
@[simp] theorem freeReads_lrstn (s : State) (p : ReadEntry → Bool) : (s.freeReads p).lrstn = s.lrstn := rfl
@[simp] theorem freeReads_hostResponse (s : State) (p : ReadEntry → Bool) : (s.freeReads p).hostResponse = s.hostResponse := rfl
@[simp] theorem freeReads_decode (s : State) (p : ReadEntry → Bool) : (s.freeReads p).decode = s.decode := rfl
@[simp] theorem freeReads_config (s : State) (p : ReadEntry → Bool) : (s.freeReads p).config = s.config := rfl
@[simp] theorem freeReads_rings (s : State) (p : ReadEntry → Bool) : (s.freeReads p).rings = s.rings := rfl
@[simp] theorem freeReads_sectors (s : State) (p : ReadEntry → Bool) : (s.freeReads p).sectors = s.sectors := rfl
@[simp] theorem freeReads_pwq (s : State) (p : ReadEntry → Bool) : (s.freeReads p).pwq = s.pwq := rfl
@[simp] theorem freeReads_headIssue (s : State) (p : ReadEntry → Bool) : (s.freeReads p).headIssue = s.headIssue := rfl
@[simp] theorem freeReads_reads (s : State) (p : ReadEntry → Bool) : (s.freeReads p).reads = s.reads.filter fun e => !p e := rfl
@[simp] theorem freeReads_discardTime (s : State) (p : ReadEntry → Bool) : (s.freeReads p).discardTime = s.discardTime := rfl
@[simp] theorem freeReads_notices (s : State) (p : ReadEntry → Bool) : (s.freeReads p).notices = s.notices := rfl
@[simp] theorem freeReads_events (s : State) (p : ReadEntry → Bool) : (s.freeReads p).events = s.events := rfl
@[simp] theorem freeReads_timestamp (s : State) (p : ReadEntry → Bool) : (s.freeReads p).timestamp = s.timestamp := rfl
@[simp] theorem freeReads_port (s : State) (p : ReadEntry → Bool) : (s.freeReads p).port = s.port := rfl
@[simp] theorem freeReads_ring (s : State) (p : ReadEntry → Bool) (r₀ : RingNo) : (s.freeReads p).ring r₀ = s.ring r₀ := rfl
@[simp] theorem freeReads_cfg (s : State) (p : ReadEntry → Bool) (r₀ : RingNo) : (s.freeReads p).cfg r₀ = s.cfg r₀ := rfl
@[simp] theorem freeReads_window (s : State) (p : ReadEntry → Bool) (r₀ : RingNo) : (s.freeReads p).window r₀ = s.window r₀ := rfl
@[simp] theorem freeReads_record (s : State) (p : ReadEntry → Bool) (r₀ : RingNo) (i₀ : SectorNo) : (s.freeReads p).record r₀ i₀ = s.record r₀ i₀ := rfl

/-! ### updateRead -/

@[simp] theorem updateRead_pending (s : State) (k : ReadRequest) (f : ReadEntry → ReadEntry) : (s.updateRead k f).pending = s.pending := rfl
@[simp] theorem updateRead_orderChoice (s : State) (k : ReadRequest) (f : ReadEntry → ReadEntry) : (s.updateRead k f).orderChoice = s.orderChoice := rfl
@[simp] theorem updateRead_porstn (s : State) (k : ReadRequest) (f : ReadEntry → ReadEntry) : (s.updateRead k f).porstn = s.porstn := rfl
@[simp] theorem updateRead_lrstn (s : State) (k : ReadRequest) (f : ReadEntry → ReadEntry) : (s.updateRead k f).lrstn = s.lrstn := rfl
@[simp] theorem updateRead_hostResponse (s : State) (k : ReadRequest) (f : ReadEntry → ReadEntry) : (s.updateRead k f).hostResponse = s.hostResponse := rfl
@[simp] theorem updateRead_decode (s : State) (k : ReadRequest) (f : ReadEntry → ReadEntry) : (s.updateRead k f).decode = s.decode := rfl
@[simp] theorem updateRead_config (s : State) (k : ReadRequest) (f : ReadEntry → ReadEntry) : (s.updateRead k f).config = s.config := rfl
@[simp] theorem updateRead_rings (s : State) (k : ReadRequest) (f : ReadEntry → ReadEntry) : (s.updateRead k f).rings = s.rings := rfl
@[simp] theorem updateRead_sectors (s : State) (k : ReadRequest) (f : ReadEntry → ReadEntry) : (s.updateRead k f).sectors = s.sectors := rfl
@[simp] theorem updateRead_pwq (s : State) (k : ReadRequest) (f : ReadEntry → ReadEntry) : (s.updateRead k f).pwq = s.pwq := rfl
@[simp] theorem updateRead_headIssue (s : State) (k : ReadRequest) (f : ReadEntry → ReadEntry) : (s.updateRead k f).headIssue = s.headIssue := rfl
@[simp] theorem updateRead_reads (s : State) (k : ReadRequest) (f : ReadEntry → ReadEntry) : (s.updateRead k f).reads = s.reads.map fun e => if e.request = k then f e else e := rfl
@[simp] theorem updateRead_discardTime (s : State) (k : ReadRequest) (f : ReadEntry → ReadEntry) : (s.updateRead k f).discardTime = s.discardTime := rfl
@[simp] theorem updateRead_notices (s : State) (k : ReadRequest) (f : ReadEntry → ReadEntry) : (s.updateRead k f).notices = s.notices := rfl
@[simp] theorem updateRead_link (s : State) (k : ReadRequest) (f : ReadEntry → ReadEntry) : (s.updateRead k f).link = s.link := rfl
@[simp] theorem updateRead_events (s : State) (k : ReadRequest) (f : ReadEntry → ReadEntry) : (s.updateRead k f).events = s.events := rfl
@[simp] theorem updateRead_timestamp (s : State) (k : ReadRequest) (f : ReadEntry → ReadEntry) : (s.updateRead k f).timestamp = s.timestamp := rfl
@[simp] theorem updateRead_port (s : State) (k : ReadRequest) (f : ReadEntry → ReadEntry) : (s.updateRead k f).port = s.port := rfl
@[simp] theorem updateRead_ring (s : State) (k : ReadRequest) (f : ReadEntry → ReadEntry) (r₀ : RingNo) : (s.updateRead k f).ring r₀ = s.ring r₀ := rfl
@[simp] theorem updateRead_cfg (s : State) (k : ReadRequest) (f : ReadEntry → ReadEntry) (r₀ : RingNo) : (s.updateRead k f).cfg r₀ = s.cfg r₀ := rfl
@[simp] theorem updateRead_window (s : State) (k : ReadRequest) (f : ReadEntry → ReadEntry) (r₀ : RingNo) : (s.updateRead k f).window r₀ = s.window r₀ := rfl
@[simp] theorem updateRead_record (s : State) (k : ReadRequest) (f : ReadEntry → ReadEntry) (r₀ : RingNo) (i₀ : SectorNo) : (s.updateRead k f).record r₀ i₀ = s.record r₀ i₀ := rfl

/-! ### removeRead -/

@[simp] theorem removeRead_pending (s : State) (k : ReadRequest) : (s.removeRead k).pending = s.pending := rfl
@[simp] theorem removeRead_orderChoice (s : State) (k : ReadRequest) : (s.removeRead k).orderChoice = s.orderChoice := rfl
@[simp] theorem removeRead_porstn (s : State) (k : ReadRequest) : (s.removeRead k).porstn = s.porstn := rfl
@[simp] theorem removeRead_lrstn (s : State) (k : ReadRequest) : (s.removeRead k).lrstn = s.lrstn := rfl
@[simp] theorem removeRead_hostResponse (s : State) (k : ReadRequest) : (s.removeRead k).hostResponse = s.hostResponse := rfl
@[simp] theorem removeRead_decode (s : State) (k : ReadRequest) : (s.removeRead k).decode = s.decode := rfl
@[simp] theorem removeRead_config (s : State) (k : ReadRequest) : (s.removeRead k).config = s.config := rfl
@[simp] theorem removeRead_rings (s : State) (k : ReadRequest) : (s.removeRead k).rings = s.rings := rfl
@[simp] theorem removeRead_sectors (s : State) (k : ReadRequest) : (s.removeRead k).sectors = s.sectors := rfl
@[simp] theorem removeRead_pwq (s : State) (k : ReadRequest) : (s.removeRead k).pwq = s.pwq := rfl
@[simp] theorem removeRead_headIssue (s : State) (k : ReadRequest) : (s.removeRead k).headIssue = s.headIssue := rfl
@[simp] theorem removeRead_reads (s : State) (k : ReadRequest) : (s.removeRead k).reads = s.reads.filter fun e => decide (e.request ≠ k) := rfl
@[simp] theorem removeRead_discardTime (s : State) (k : ReadRequest) : (s.removeRead k).discardTime = s.discardTime := rfl
@[simp] theorem removeRead_notices (s : State) (k : ReadRequest) : (s.removeRead k).notices = s.notices := rfl
@[simp] theorem removeRead_link (s : State) (k : ReadRequest) : (s.removeRead k).link = s.link := rfl
@[simp] theorem removeRead_events (s : State) (k : ReadRequest) : (s.removeRead k).events = s.events := rfl
@[simp] theorem removeRead_timestamp (s : State) (k : ReadRequest) : (s.removeRead k).timestamp = s.timestamp := rfl
@[simp] theorem removeRead_port (s : State) (k : ReadRequest) : (s.removeRead k).port = s.port := rfl
@[simp] theorem removeRead_ring (s : State) (k : ReadRequest) (r₀ : RingNo) : (s.removeRead k).ring r₀ = s.ring r₀ := rfl
@[simp] theorem removeRead_cfg (s : State) (k : ReadRequest) (r₀ : RingNo) : (s.removeRead k).cfg r₀ = s.cfg r₀ := rfl
@[simp] theorem removeRead_window (s : State) (k : ReadRequest) (r₀ : RingNo) : (s.removeRead k).window r₀ = s.window r₀ := rfl
@[simp] theorem removeRead_record (s : State) (k : ReadRequest) (r₀ : RingNo) (i₀ : SectorNo) : (s.removeRead k).record r₀ i₀ = s.record r₀ i₀ := rfl

/-! ### freeSlot -/

@[simp] theorem freeSlot_pending (s : State) (tag : BitVec 2) : (s.freeSlot tag).pending = s.pending := rfl
@[simp] theorem freeSlot_orderChoice (s : State) (tag : BitVec 2) : (s.freeSlot tag).orderChoice = s.orderChoice := rfl
@[simp] theorem freeSlot_porstn (s : State) (tag : BitVec 2) : (s.freeSlot tag).porstn = s.porstn := rfl
@[simp] theorem freeSlot_lrstn (s : State) (tag : BitVec 2) : (s.freeSlot tag).lrstn = s.lrstn := rfl
@[simp] theorem freeSlot_hostResponse (s : State) (tag : BitVec 2) : (s.freeSlot tag).hostResponse = s.hostResponse := rfl
@[simp] theorem freeSlot_decode (s : State) (tag : BitVec 2) : (s.freeSlot tag).decode = s.decode := rfl
@[simp] theorem freeSlot_config (s : State) (tag : BitVec 2) : (s.freeSlot tag).config = s.config := rfl
@[simp] theorem freeSlot_rings (s : State) (tag : BitVec 2) : (s.freeSlot tag).rings = s.rings := rfl
@[simp] theorem freeSlot_sectors (s : State) (tag : BitVec 2) : (s.freeSlot tag).sectors = s.sectors := rfl
@[simp] theorem freeSlot_pwq (s : State) (tag : BitVec 2) : (s.freeSlot tag).pwq = s.pwq := rfl
@[simp] theorem freeSlot_headIssue (s : State) (tag : BitVec 2) : (s.freeSlot tag).headIssue = s.headIssue := rfl
@[simp] theorem freeSlot_reads (s : State) (tag : BitVec 2) : (s.freeSlot tag).reads = s.reads := rfl
@[simp] theorem freeSlot_discardTime (s : State) (tag : BitVec 2) : (s.freeSlot tag).discardTime = s.discardTime := rfl
@[simp] theorem freeSlot_notices (s : State) (tag : BitVec 2) : (s.freeSlot tag).notices = s.notices := rfl
@[simp] theorem freeSlot_events (s : State) (tag : BitVec 2) : (s.freeSlot tag).events = s.events := rfl
@[simp] theorem freeSlot_timestamp (s : State) (tag : BitVec 2) : (s.freeSlot tag).timestamp = s.timestamp := rfl
@[simp] theorem freeSlot_port (s : State) (tag : BitVec 2) : (s.freeSlot tag).port = s.port := rfl
@[simp] theorem freeSlot_ring (s : State) (tag : BitVec 2) (r₀ : RingNo) : (s.freeSlot tag).ring r₀ = s.ring r₀ := rfl
@[simp] theorem freeSlot_cfg (s : State) (tag : BitVec 2) (r₀ : RingNo) : (s.freeSlot tag).cfg r₀ = s.cfg r₀ := rfl
@[simp] theorem freeSlot_window (s : State) (tag : BitVec 2) (r₀ : RingNo) : (s.freeSlot tag).window r₀ = s.window r₀ := rfl
@[simp] theorem freeSlot_record (s : State) (tag : BitVec 2) (r₀ : RingNo) (i₀ : SectorNo) : (s.freeSlot tag).record r₀ i₀ = s.record r₀ i₀ := rfl

/-! ### setNext -/

@[simp] theorem setNext_pending (s : State) (q : Requester) : (s.setNext q).pending = s.pending := rfl
@[simp] theorem setNext_orderChoice (s : State) (q : Requester) : (s.setNext q).orderChoice = s.orderChoice := rfl
@[simp] theorem setNext_porstn (s : State) (q : Requester) : (s.setNext q).porstn = s.porstn := rfl
@[simp] theorem setNext_lrstn (s : State) (q : Requester) : (s.setNext q).lrstn = s.lrstn := rfl
@[simp] theorem setNext_hostResponse (s : State) (q : Requester) : (s.setNext q).hostResponse = s.hostResponse := rfl
@[simp] theorem setNext_decode (s : State) (q : Requester) : (s.setNext q).decode = s.decode := rfl
@[simp] theorem setNext_config (s : State) (q : Requester) : (s.setNext q).config = s.config := rfl
@[simp] theorem setNext_rings (s : State) (q : Requester) : (s.setNext q).rings = s.rings := rfl
@[simp] theorem setNext_sectors (s : State) (q : Requester) : (s.setNext q).sectors = s.sectors := rfl
@[simp] theorem setNext_pwq (s : State) (q : Requester) : (s.setNext q).pwq = s.pwq := rfl
@[simp] theorem setNext_headIssue (s : State) (q : Requester) : (s.setNext q).headIssue = s.headIssue := rfl
@[simp] theorem setNext_reads (s : State) (q : Requester) : (s.setNext q).reads = s.reads := rfl
@[simp] theorem setNext_discardTime (s : State) (q : Requester) : (s.setNext q).discardTime = s.discardTime := rfl
@[simp] theorem setNext_notices (s : State) (q : Requester) : (s.setNext q).notices = s.notices := rfl
@[simp] theorem setNext_link (s : State) (q : Requester) : (s.setNext q).link = { s.link with next := q } := rfl
@[simp] theorem setNext_events (s : State) (q : Requester) : (s.setNext q).events = s.events := rfl
@[simp] theorem setNext_timestamp (s : State) (q : Requester) : (s.setNext q).timestamp = s.timestamp := rfl
@[simp] theorem setNext_port (s : State) (q : Requester) : (s.setNext q).port = s.port := rfl
@[simp] theorem setNext_ring (s : State) (q : Requester) (r₀ : RingNo) : (s.setNext q).ring r₀ = s.ring r₀ := rfl
@[simp] theorem setNext_cfg (s : State) (q : Requester) (r₀ : RingNo) : (s.setNext q).cfg r₀ = s.cfg r₀ := rfl
@[simp] theorem setNext_window (s : State) (q : Requester) (r₀ : RingNo) : (s.setNext q).window r₀ = s.window r₀ := rfl
@[simp] theorem setNext_record (s : State) (q : Requester) (r₀ : RingNo) (i₀ : SectorNo) : (s.setNext q).record r₀ i₀ = s.record r₀ i₀ := rfl

/-! ### noticeLeaves -/

@[simp] theorem noticeLeaves_pending (s : State) : (s.noticeLeaves).pending = s.pending := rfl
@[simp] theorem noticeLeaves_orderChoice (s : State) : (s.noticeLeaves).orderChoice = s.orderChoice := rfl
@[simp] theorem noticeLeaves_porstn (s : State) : (s.noticeLeaves).porstn = s.porstn := rfl
@[simp] theorem noticeLeaves_lrstn (s : State) : (s.noticeLeaves).lrstn = s.lrstn := rfl
@[simp] theorem noticeLeaves_hostResponse (s : State) : (s.noticeLeaves).hostResponse = s.hostResponse := rfl
@[simp] theorem noticeLeaves_decode (s : State) : (s.noticeLeaves).decode = s.decode := rfl
@[simp] theorem noticeLeaves_config (s : State) : (s.noticeLeaves).config = s.config := rfl
@[simp] theorem noticeLeaves_rings (s : State) : (s.noticeLeaves).rings = s.rings := rfl
@[simp] theorem noticeLeaves_sectors (s : State) : (s.noticeLeaves).sectors = s.sectors := rfl
@[simp] theorem noticeLeaves_pwq (s : State) : (s.noticeLeaves).pwq = s.pwq := rfl
@[simp] theorem noticeLeaves_headIssue (s : State) : (s.noticeLeaves).headIssue = s.headIssue := rfl
@[simp] theorem noticeLeaves_reads (s : State) : (s.noticeLeaves).reads = s.reads := rfl
@[simp] theorem noticeLeaves_discardTime (s : State) : (s.noticeLeaves).discardTime = s.discardTime := rfl
@[simp] theorem noticeLeaves_notices (s : State) : (s.noticeLeaves).notices = { s.notices with fifo := s.notices.fifo.tail, wd := s.notices.wd + 1 } := rfl
@[simp] theorem noticeLeaves_link (s : State) : (s.noticeLeaves).link = s.link := rfl
@[simp] theorem noticeLeaves_events (s : State) : (s.noticeLeaves).events = s.events := rfl
@[simp] theorem noticeLeaves_timestamp (s : State) : (s.noticeLeaves).timestamp = s.timestamp := rfl
@[simp] theorem noticeLeaves_port (s : State) : (s.noticeLeaves).port = s.port := rfl
@[simp] theorem noticeLeaves_ring (s : State) (r₀ : RingNo) : (s.noticeLeaves).ring r₀ = s.ring r₀ := rfl
@[simp] theorem noticeLeaves_cfg (s : State) (r₀ : RingNo) : (s.noticeLeaves).cfg r₀ = s.cfg r₀ := rfl
@[simp] theorem noticeLeaves_window (s : State) (r₀ : RingNo) : (s.noticeLeaves).window r₀ = s.window r₀ := rfl
@[simp] theorem noticeLeaves_record (s : State) (r₀ : RingNo) (i₀ : SectorNo) : (s.noticeLeaves).record r₀ i₀ = s.record r₀ i₀ := rfl

/-! ### loadResult -/

@[simp] theorem loadResult_pending (s : State) (code : Byte) (n : BitVec 4) (v : Verdict) : (s.loadResult code n v).pending = s.pending := rfl
@[simp] theorem loadResult_orderChoice (s : State) (code : Byte) (n : BitVec 4) (v : Verdict) : (s.loadResult code n v).orderChoice = s.orderChoice := rfl
@[simp] theorem loadResult_porstn (s : State) (code : Byte) (n : BitVec 4) (v : Verdict) : (s.loadResult code n v).porstn = s.porstn := rfl
@[simp] theorem loadResult_lrstn (s : State) (code : Byte) (n : BitVec 4) (v : Verdict) : (s.loadResult code n v).lrstn = s.lrstn := rfl
@[simp] theorem loadResult_hostResponse (s : State) (code : Byte) (n : BitVec 4) (v : Verdict) : (s.loadResult code n v).hostResponse = s.hostResponse := rfl
@[simp] theorem loadResult_decode (s : State) (code : Byte) (n : BitVec 4) (v : Verdict) : (s.loadResult code n v).decode = s.decode := rfl
@[simp] theorem loadResult_config (s : State) (code : Byte) (n : BitVec 4) (v : Verdict) : (s.loadResult code n v).config = s.config := rfl
@[simp] theorem loadResult_rings (s : State) (code : Byte) (n : BitVec 4) (v : Verdict) : (s.loadResult code n v).rings = s.rings := rfl
@[simp] theorem loadResult_sectors (s : State) (code : Byte) (n : BitVec 4) (v : Verdict) : (s.loadResult code n v).sectors = s.sectors := rfl
@[simp] theorem loadResult_pwq (s : State) (code : Byte) (n : BitVec 4) (v : Verdict) : (s.loadResult code n v).pwq = s.pwq := rfl
@[simp] theorem loadResult_headIssue (s : State) (code : Byte) (n : BitVec 4) (v : Verdict) : (s.loadResult code n v).headIssue = s.headIssue := rfl
@[simp] theorem loadResult_reads (s : State) (code : Byte) (n : BitVec 4) (v : Verdict) : (s.loadResult code n v).reads = s.reads := rfl
@[simp] theorem loadResult_discardTime (s : State) (code : Byte) (n : BitVec 4) (v : Verdict) : (s.loadResult code n v).discardTime = s.discardTime := rfl
@[simp] theorem loadResult_notices (s : State) (code : Byte) (n : BitVec 4) (v : Verdict) : (s.loadResult code n v).notices = s.notices := rfl
@[simp] theorem loadResult_link (s : State) (code : Byte) (n : BitVec 4) (v : Verdict) : (s.loadResult code n v).link = s.link := rfl
@[simp] theorem loadResult_events (s : State) (code : Byte) (n : BitVec 4) (v : Verdict) : (s.loadResult code n v).events = s.events := rfl
@[simp] theorem loadResult_timestamp (s : State) (code : Byte) (n : BitVec 4) (v : Verdict) : (s.loadResult code n v).timestamp = s.timestamp := rfl
@[simp] theorem loadResult_ring (s : State) (code : Byte) (n : BitVec 4) (v : Verdict) (r₀ : RingNo) : (s.loadResult code n v).ring r₀ = s.ring r₀ := rfl
@[simp] theorem loadResult_cfg (s : State) (code : Byte) (n : BitVec 4) (v : Verdict) (r₀ : RingNo) : (s.loadResult code n v).cfg r₀ = s.cfg r₀ := rfl
@[simp] theorem loadResult_window (s : State) (code : Byte) (n : BitVec 4) (v : Verdict) (r₀ : RingNo) : (s.loadResult code n v).window r₀ = s.window r₀ := rfl
@[simp] theorem loadResult_record (s : State) (code : Byte) (n : BitVec 4) (v : Verdict) (r₀ : RingNo) (i₀ : SectorNo) : (s.loadResult code n v).record r₀ i₀ = s.record r₀ i₀ := rfl

/-! ### pastByte -/

@[simp] theorem pastByte_pending (s : State) (o : BitVec 16) : (s.pastByte o).pending = s.pending := rfl
@[simp] theorem pastByte_orderChoice (s : State) (o : BitVec 16) : (s.pastByte o).orderChoice = s.orderChoice := rfl
@[simp] theorem pastByte_porstn (s : State) (o : BitVec 16) : (s.pastByte o).porstn = s.porstn := rfl
@[simp] theorem pastByte_lrstn (s : State) (o : BitVec 16) : (s.pastByte o).lrstn = s.lrstn := rfl
@[simp] theorem pastByte_hostResponse (s : State) (o : BitVec 16) : (s.pastByte o).hostResponse = s.hostResponse := rfl
@[simp] theorem pastByte_decode (s : State) (o : BitVec 16) : (s.pastByte o).decode = s.decode := rfl
@[simp] theorem pastByte_config (s : State) (o : BitVec 16) : (s.pastByte o).config = s.config := rfl
@[simp] theorem pastByte_rings (s : State) (o : BitVec 16) : (s.pastByte o).rings = s.rings := rfl
@[simp] theorem pastByte_sectors (s : State) (o : BitVec 16) : (s.pastByte o).sectors = s.sectors := rfl
@[simp] theorem pastByte_pwq (s : State) (o : BitVec 16) : (s.pastByte o).pwq = s.pwq := rfl
@[simp] theorem pastByte_headIssue (s : State) (o : BitVec 16) : (s.pastByte o).headIssue = s.headIssue := rfl
@[simp] theorem pastByte_reads (s : State) (o : BitVec 16) : (s.pastByte o).reads = s.reads := rfl
@[simp] theorem pastByte_discardTime (s : State) (o : BitVec 16) : (s.pastByte o).discardTime = s.discardTime := rfl
@[simp] theorem pastByte_notices (s : State) (o : BitVec 16) : (s.pastByte o).notices = s.notices := rfl
@[simp] theorem pastByte_link (s : State) (o : BitVec 16) : (s.pastByte o).link = s.link := rfl
@[simp] theorem pastByte_events (s : State) (o : BitVec 16) : (s.pastByte o).events = s.events := rfl
@[simp] theorem pastByte_timestamp (s : State) (o : BitVec 16) : (s.pastByte o).timestamp = s.timestamp := rfl
@[simp] theorem pastByte_ring (s : State) (o : BitVec 16) (r₀ : RingNo) : (s.pastByte o).ring r₀ = s.ring r₀ := rfl
@[simp] theorem pastByte_cfg (s : State) (o : BitVec 16) (r₀ : RingNo) : (s.pastByte o).cfg r₀ = s.cfg r₀ := rfl
@[simp] theorem pastByte_window (s : State) (o : BitVec 16) (r₀ : RingNo) : (s.pastByte o).window r₀ = s.window r₀ := rfl
@[simp] theorem pastByte_record (s : State) (o : BitVec 16) (r₀ : RingNo) (i₀ : SectorNo) : (s.pastByte o).record r₀ i₀ = s.record r₀ i₀ := rfl

/-! ### nack -/

@[simp] theorem nack_pending (s : State) : (s.nack).pending = s.pending := rfl
@[simp] theorem nack_orderChoice (s : State) : (s.nack).orderChoice = s.orderChoice := rfl
@[simp] theorem nack_porstn (s : State) : (s.nack).porstn = s.porstn := rfl
@[simp] theorem nack_lrstn (s : State) : (s.nack).lrstn = s.lrstn := rfl
@[simp] theorem nack_hostResponse (s : State) : (s.nack).hostResponse = s.hostResponse := rfl
@[simp] theorem nack_decode (s : State) : (s.nack).decode = s.decode := rfl
@[simp] theorem nack_config (s : State) : (s.nack).config = s.config := rfl
@[simp] theorem nack_rings (s : State) : (s.nack).rings = s.rings := rfl
@[simp] theorem nack_sectors (s : State) : (s.nack).sectors = s.sectors := rfl
@[simp] theorem nack_pwq (s : State) : (s.nack).pwq = s.pwq := rfl
@[simp] theorem nack_headIssue (s : State) : (s.nack).headIssue = s.headIssue := rfl
@[simp] theorem nack_reads (s : State) : (s.nack).reads = s.reads := rfl
@[simp] theorem nack_discardTime (s : State) : (s.nack).discardTime = s.discardTime := rfl
@[simp] theorem nack_notices (s : State) : (s.nack).notices = s.notices := rfl
@[simp] theorem nack_link (s : State) : (s.nack).link = s.link := rfl
@[simp] theorem nack_events (s : State) : (s.nack).events = s.events := rfl
@[simp] theorem nack_timestamp (s : State) : (s.nack).timestamp = s.timestamp := rfl
@[simp] theorem nack_port (s : State) : (s.nack).port = { s.port with acked := false } := rfl
@[simp] theorem nack_ring (s : State) (r₀ : RingNo) : (s.nack).ring r₀ = s.ring r₀ := rfl
@[simp] theorem nack_cfg (s : State) (r₀ : RingNo) : (s.nack).cfg r₀ = s.cfg r₀ := rfl
@[simp] theorem nack_window (s : State) (r₀ : RingNo) : (s.nack).window r₀ = s.window r₀ := rfl
@[simp] theorem nack_record (s : State) (r₀ : RingNo) (i₀ : SectorNo) : (s.nack).record r₀ i₀ = s.record r₀ i₀ := rfl

/-! ### pastRead -/

@[simp] theorem pastRead_pending (s : State) (o : BitVec 16) (a : Bool) : (s.pastRead o a).pending = s.pending := rfl
@[simp] theorem pastRead_orderChoice (s : State) (o : BitVec 16) (a : Bool) : (s.pastRead o a).orderChoice = s.orderChoice := rfl
@[simp] theorem pastRead_porstn (s : State) (o : BitVec 16) (a : Bool) : (s.pastRead o a).porstn = s.porstn := rfl
@[simp] theorem pastRead_lrstn (s : State) (o : BitVec 16) (a : Bool) : (s.pastRead o a).lrstn = s.lrstn := rfl
@[simp] theorem pastRead_hostResponse (s : State) (o : BitVec 16) (a : Bool) : (s.pastRead o a).hostResponse = s.hostResponse := rfl
@[simp] theorem pastRead_decode (s : State) (o : BitVec 16) (a : Bool) : (s.pastRead o a).decode = s.decode := rfl
@[simp] theorem pastRead_config (s : State) (o : BitVec 16) (a : Bool) : (s.pastRead o a).config = s.config := rfl
@[simp] theorem pastRead_rings (s : State) (o : BitVec 16) (a : Bool) : (s.pastRead o a).rings = s.rings := rfl
@[simp] theorem pastRead_sectors (s : State) (o : BitVec 16) (a : Bool) : (s.pastRead o a).sectors = s.sectors := rfl
@[simp] theorem pastRead_pwq (s : State) (o : BitVec 16) (a : Bool) : (s.pastRead o a).pwq = s.pwq := rfl
@[simp] theorem pastRead_headIssue (s : State) (o : BitVec 16) (a : Bool) : (s.pastRead o a).headIssue = s.headIssue := rfl
@[simp] theorem pastRead_reads (s : State) (o : BitVec 16) (a : Bool) : (s.pastRead o a).reads = s.reads := rfl
@[simp] theorem pastRead_discardTime (s : State) (o : BitVec 16) (a : Bool) : (s.pastRead o a).discardTime = s.discardTime := rfl
@[simp] theorem pastRead_notices (s : State) (o : BitVec 16) (a : Bool) : (s.pastRead o a).notices = s.notices := rfl
@[simp] theorem pastRead_link (s : State) (o : BitVec 16) (a : Bool) : (s.pastRead o a).link = s.link := rfl
@[simp] theorem pastRead_events (s : State) (o : BitVec 16) (a : Bool) : (s.pastRead o a).events = s.events := rfl
@[simp] theorem pastRead_timestamp (s : State) (o : BitVec 16) (a : Bool) : (s.pastRead o a).timestamp = s.timestamp := rfl
@[simp] theorem pastRead_ring (s : State) (o : BitVec 16) (a : Bool) (r₀ : RingNo) : (s.pastRead o a).ring r₀ = s.ring r₀ := rfl
@[simp] theorem pastRead_cfg (s : State) (o : BitVec 16) (a : Bool) (r₀ : RingNo) : (s.pastRead o a).cfg r₀ = s.cfg r₀ := rfl
@[simp] theorem pastRead_window (s : State) (o : BitVec 16) (a : Bool) (r₀ : RingNo) : (s.pastRead o a).window r₀ = s.window r₀ := rfl
@[simp] theorem pastRead_record (s : State) (o : BitVec 16) (a : Bool) (r₀ : RingNo) (i₀ : SectorNo) : (s.pastRead o a).record r₀ i₀ = s.record r₀ i₀ := rfl

/-! ### sendNothing -/

@[simp] theorem sendNothing_pending (s : State) : (s.sendNothing).pending = s.pending := rfl
@[simp] theorem sendNothing_orderChoice (s : State) : (s.sendNothing).orderChoice = s.orderChoice := rfl
@[simp] theorem sendNothing_porstn (s : State) : (s.sendNothing).porstn = s.porstn := rfl
@[simp] theorem sendNothing_lrstn (s : State) : (s.sendNothing).lrstn = s.lrstn := rfl
@[simp] theorem sendNothing_hostResponse (s : State) : (s.sendNothing).hostResponse = s.hostResponse := rfl
@[simp] theorem sendNothing_decode (s : State) : (s.sendNothing).decode = s.decode := rfl
@[simp] theorem sendNothing_config (s : State) : (s.sendNothing).config = s.config := rfl
@[simp] theorem sendNothing_rings (s : State) : (s.sendNothing).rings = s.rings := rfl
@[simp] theorem sendNothing_sectors (s : State) : (s.sendNothing).sectors = s.sectors := rfl
@[simp] theorem sendNothing_pwq (s : State) : (s.sendNothing).pwq = s.pwq := rfl
@[simp] theorem sendNothing_headIssue (s : State) : (s.sendNothing).headIssue = s.headIssue := rfl
@[simp] theorem sendNothing_reads (s : State) : (s.sendNothing).reads = s.reads := rfl
@[simp] theorem sendNothing_discardTime (s : State) : (s.sendNothing).discardTime = s.discardTime := rfl
@[simp] theorem sendNothing_notices (s : State) : (s.sendNothing).notices = s.notices := rfl
@[simp] theorem sendNothing_link (s : State) : (s.sendNothing).link = s.link := rfl
@[simp] theorem sendNothing_events (s : State) : (s.sendNothing).events = s.events := rfl
@[simp] theorem sendNothing_timestamp (s : State) : (s.sendNothing).timestamp = s.timestamp := rfl
@[simp] theorem sendNothing_port (s : State) : (s.sendNothing).port = { s.port with sent := none } := rfl
@[simp] theorem sendNothing_ring (s : State) (r₀ : RingNo) : (s.sendNothing).ring r₀ = s.ring r₀ := rfl
@[simp] theorem sendNothing_cfg (s : State) (r₀ : RingNo) : (s.sendNothing).cfg r₀ = s.cfg r₀ := rfl
@[simp] theorem sendNothing_window (s : State) (r₀ : RingNo) : (s.sendNothing).window r₀ = s.window r₀ := rfl
@[simp] theorem sendNothing_record (s : State) (r₀ : RingNo) (i₀ : SectorNo) : (s.sendNothing).record r₀ i₀ = s.record r₀ i₀ := rfl

/-! ### The parts of the link and of the port -/

@[simp] theorem freeReads_link_writeSlot (s : State) (p : ReadEntry → Bool) : (s.freeReads p).link.writeSlot = s.link.writeSlot := rfl
@[simp] theorem freeReads_link_readA (s : State) (p : ReadEntry → Bool) : (s.freeReads p).link.readA = s.link.readA.orphanIf (fun k => s.reads.any fun e => p e && e.inFlight && decide (e.request = k)) := rfl
@[simp] theorem freeReads_link_readB (s : State) (p : ReadEntry → Bool) : (s.freeReads p).link.readB = s.link.readB.orphanIf (fun k => s.reads.any fun e => p e && e.inFlight && decide (e.request = k)) := rfl
@[simp] theorem freeReads_link_next (s : State) (p : ReadEntry → Bool) : (s.freeReads p).link.next = s.link.next := rfl
@[simp] theorem freeReads_link_budget (s : State) (p : ReadEntry → Bool) : (s.freeReads p).link.budget = s.link.budget := rfl
@[simp] theorem freeReads_link_backoff (s : State) (p : ReadEntry → Bool) : (s.freeReads p).link.backoff = s.link.backoff := rfl
@[simp] theorem freeReads_link_request (s : State) (p : ReadEntry → Bool) : (s.freeReads p).link.request = s.link.request := rfl

@[simp] theorem freeSlot_link_writeSlot (s : State) (tag : BitVec 2) : (s.freeSlot tag).link.writeSlot = (if tag = 0 then .free else s.link.writeSlot) := rfl
@[simp] theorem freeSlot_link_readA (s : State) (tag : BitVec 2) : (s.freeSlot tag).link.readA = (if tag = 1 then .free else s.link.readA) := rfl
@[simp] theorem freeSlot_link_readB (s : State) (tag : BitVec 2) : (s.freeSlot tag).link.readB = (if tag = 2 then .free else s.link.readB) := rfl
@[simp] theorem freeSlot_link_next (s : State) (tag : BitVec 2) : (s.freeSlot tag).link.next = s.link.next := rfl
@[simp] theorem freeSlot_link_budget (s : State) (tag : BitVec 2) : (s.freeSlot tag).link.budget = s.link.budget := rfl
@[simp] theorem freeSlot_link_backoff (s : State) (tag : BitVec 2) : (s.freeSlot tag).link.backoff = s.link.backoff := rfl
@[simp] theorem freeSlot_link_request (s : State) (tag : BitVec 2) : (s.freeSlot tag).link.request = s.link.request := rfl

@[simp] theorem loadResult_port_address (s : State) (code : Byte) (n : BitVec 4) (v : Verdict) : (s.loadResult code n v).port.address = s.port.address := rfl
@[simp] theorem loadResult_port_transaction (s : State) (code : Byte) (n : BitVec 4) (v : Verdict) : (s.loadResult code n v).port.transaction = s.port.transaction := rfl
@[simp] theorem loadResult_port_outOfWindow (s : State) (code : Byte) (n : BitVec 4) (v : Verdict) : (s.loadResult code n v).port.outOfWindow = s.port.outOfWindow := rfl
@[simp] theorem loadResult_port_offset (s : State) (code : Byte) (n : BitVec 4) (v : Verdict) : (s.loadResult code n v).port.offset = s.port.offset := rfl
@[simp] theorem loadResult_port_staging (s : State) (code : Byte) (n : BitVec 4) (v : Verdict) : (s.loadResult code n v).port.staging = none := rfl
@[simp] theorem loadResult_port_holding (s : State) (code : Byte) (n : BitVec 4) (v : Verdict) : (s.loadResult code n v).port.holding = s.port.holding := rfl
@[simp] theorem loadResult_port_inspectSelect (s : State) (code : Byte) (n : BitVec 4) (v : Verdict) : (s.loadResult code n v).port.inspectSelect = s.port.inspectSelect := rfl
@[simp] theorem loadResult_port_snapshot (s : State) (code : Byte) (n : BitVec 4) (v : Verdict) : (s.loadResult code n v).port.snapshot = s.port.snapshot := rfl
@[simp] theorem loadResult_port_configLocked (s : State) (code : Byte) (n : BitVec 4) (v : Verdict) : (s.loadResult code n v).port.configLocked = s.port.configLocked := rfl
@[simp] theorem loadResult_port_result (s : State) (code : Byte) (n : BitVec 4) (v : Verdict) : (s.loadResult code n v).port.result = { ring := n, code := code, verdict := v } := rfl
@[simp] theorem loadResult_port_commandRing (s : State) (code : Byte) (n : BitVec 4) (v : Verdict) : (s.loadResult code n v).port.commandRing = n := rfl
@[simp] theorem loadResult_port_acked (s : State) (code : Byte) (n : BitVec 4) (v : Verdict) : (s.loadResult code n v).port.acked = s.port.acked := rfl
@[simp] theorem loadResult_port_sent (s : State) (code : Byte) (n : BitVec 4) (v : Verdict) : (s.loadResult code n v).port.sent = s.port.sent := rfl

@[simp] theorem pastByte_port_address (s : State) (o : BitVec 16) : (s.pastByte o).port.address = s.port.address := rfl
@[simp] theorem pastByte_port_transaction (s : State) (o : BitVec 16) : (s.pastByte o).port.transaction = s.port.transaction := rfl
@[simp] theorem pastByte_port_outOfWindow (s : State) (o : BitVec 16) : (s.pastByte o).port.outOfWindow = s.port.outOfWindow := rfl
@[simp] theorem pastByte_port_offset (s : State) (o : BitVec 16) : (s.pastByte o).port.offset = (if s.port.offset = o then advanceOffset o else s.port.offset) := rfl
@[simp] theorem pastByte_port_staging (s : State) (o : BitVec 16) : (s.pastByte o).port.staging = s.port.staging := rfl
@[simp] theorem pastByte_port_holding (s : State) (o : BitVec 16) : (s.pastByte o).port.holding = s.port.holding := rfl
@[simp] theorem pastByte_port_inspectSelect (s : State) (o : BitVec 16) : (s.pastByte o).port.inspectSelect = s.port.inspectSelect := rfl
@[simp] theorem pastByte_port_snapshot (s : State) (o : BitVec 16) : (s.pastByte o).port.snapshot = s.port.snapshot := rfl
@[simp] theorem pastByte_port_configLocked (s : State) (o : BitVec 16) : (s.pastByte o).port.configLocked = s.port.configLocked := rfl
@[simp] theorem pastByte_port_result (s : State) (o : BitVec 16) : (s.pastByte o).port.result = s.port.result := rfl
@[simp] theorem pastByte_port_commandRing (s : State) (o : BitVec 16) : (s.pastByte o).port.commandRing = s.port.commandRing := rfl
@[simp] theorem pastByte_port_acked (s : State) (o : BitVec 16) : (s.pastByte o).port.acked = true := rfl
@[simp] theorem pastByte_port_sent (s : State) (o : BitVec 16) : (s.pastByte o).port.sent = s.port.sent := rfl

@[simp] theorem pastRead_port_address (s : State) (o : BitVec 16) (a : Bool) : (s.pastRead o a).port.address = s.port.address := rfl
@[simp] theorem pastRead_port_transaction (s : State) (o : BitVec 16) (a : Bool) : (s.pastRead o a).port.transaction = (if a then s.port.transaction else .idle) := rfl
@[simp] theorem pastRead_port_outOfWindow (s : State) (o : BitVec 16) (a : Bool) : (s.pastRead o a).port.outOfWindow = s.port.outOfWindow := rfl
@[simp] theorem pastRead_port_offset (s : State) (o : BitVec 16) (a : Bool) : (s.pastRead o a).port.offset = (if s.port.offset = o then advanceOffset o else s.port.offset) := rfl
@[simp] theorem pastRead_port_staging (s : State) (o : BitVec 16) (a : Bool) : (s.pastRead o a).port.staging = s.port.staging := rfl
@[simp] theorem pastRead_port_holding (s : State) (o : BitVec 16) (a : Bool) : (s.pastRead o a).port.holding = s.port.holding := rfl
@[simp] theorem pastRead_port_inspectSelect (s : State) (o : BitVec 16) (a : Bool) : (s.pastRead o a).port.inspectSelect = s.port.inspectSelect := rfl
@[simp] theorem pastRead_port_snapshot (s : State) (o : BitVec 16) (a : Bool) : (s.pastRead o a).port.snapshot = s.port.snapshot := rfl
@[simp] theorem pastRead_port_configLocked (s : State) (o : BitVec 16) (a : Bool) : (s.pastRead o a).port.configLocked = s.port.configLocked := rfl
@[simp] theorem pastRead_port_result (s : State) (o : BitVec 16) (a : Bool) : (s.pastRead o a).port.result = s.port.result := rfl
@[simp] theorem pastRead_port_commandRing (s : State) (o : BitVec 16) (a : Bool) : (s.pastRead o a).port.commandRing = s.port.commandRing := rfl
@[simp] theorem pastRead_port_acked (s : State) (o : BitVec 16) (a : Bool) : (s.pastRead o a).port.acked = s.port.acked := rfl
@[simp] theorem pastRead_port_sent (s : State) (o : BitVec 16) (a : Bool) : (s.pastRead o a).port.sent = s.port.sent := rfl

/-! ### Counting and answering -/

@[simp] theorem countAccepted_def (s : State) : s.countAccepted =
    s.setCounters { s.events.counters with writesAccepted := satSucc s.events.counters.writesAccepted } := rfl
@[simp] theorem countWriteLost_def (s : State) : s.countWriteLost =
    s.setCounters { s.events.counters with writesLost := satSucc s.events.counters.writesLost } := rfl
@[simp] theorem countAnswered_def (s : State) : s.countAnswered =
    s.setCounters { s.events.counters with readsAnswered := satSucc s.events.counters.readsAnswered } := rfl
@[simp] theorem countExpired_def (s : State) : s.countExpired =
    s.setCounters { s.events.counters with readsExpired := satSucc s.events.counters.readsExpired } := rfl
@[simp] theorem countBusy_def (s : State) : s.countBusy =
    s.setCounters { s.events.counters with busyResponses := satSucc s.events.counters.busyResponses } := rfl
@[simp] theorem countNoticeWritten_def (s : State) : s.countNoticeWritten =
    s.setCounters { s.events.counters with noticesWritten := satSucc s.events.counters.noticesWritten } := rfl
@[simp] theorem countNoticeOverrun_def (s : State) : s.countNoticeOverrun =
    s.setCounters { s.events.counters with noticesOverrun := satSucc s.events.counters.noticesOverrun } := rfl
@[simp] theorem countQueueFull_def (s : State) : s.countQueueFull =
    s.setCounters { s.events.counters with queueFull := satSucc s.events.counters.queueFull } := rfl
@[simp] theorem answerAccept_def (s : State) : s.answerAccept = s.countAccepted.respond .accept := rfl
@[simp] theorem answerQueueFull_def (s : State) : s.answerQueueFull = s.countQueueFull.respond .retry := rfl
@[simp] theorem answerAlign_def (s : State) :
    s.answerAlign = (s.countFault .align).respond (.fault .align) := rfl
@[simp] theorem answerFault_def (s : State) (f : FaultReason) :
    s.answerFault f = ((s.countFault f).post .faultSent).respond (.fault f) := rfl
@[simp] theorem answerRingFault_def (s : State) (r : RingNo) (role : Role) (f : FaultReason) :
    s.answerRingFault r role f = (s.setRing r ((s.ring r).countFault role)).answerFault f := rfl

/-! ### Reading back what was set -/

@[simp] theorem setRing_ring_same (s : State) (r : RingNo) (x : RingState) : (s.setRing r x).ring r = x := by
  simp [State.setRing, State.ring]

theorem setRing_ring_of_ne (s : State) {r r' : RingNo} (x : RingState) (h : r ≠ r') :
    (s.setRing r x).ring r' = s.ring r' := by
  have : r.val ≠ r'.val := fun e => h (Fin.ext e)
  simp [State.setRing, State.ring, this]

@[simp] theorem setRecord_record_same (s : State) (r : RingNo) (i : SectorNo) (x : SectorRecord) :
    (s.setRecord r i x).record r i = x := by
  simp [State.setRecord, State.record]

theorem setRecord_record_of_ring_ne (s : State) {r r' : RingNo} (i i' : SectorNo) (x : SectorRecord)
    (h : r ≠ r') : (s.setRecord r i x).record r' i' = s.record r' i' := by
  have : r.val ≠ r'.val := fun e => h (Fin.ext e)
  simp [State.setRecord, State.record, this]

theorem setRecord_record_of_sector_ne (s : State) (r : RingNo) {i i' : SectorNo} (x : SectorRecord)
    (h : i ≠ i') : (s.setRecord r i x).record r i' = s.record r i' := by
  have : i.val ≠ i'.val := fun e => h (Fin.ext e)
  simp [State.setRecord, State.record, this]

end Sys2Proof.Laws
end

