-- ==== Sys2Proof/Laws/Ops.lean ====
section
/-! SUPPORT. What each shared operation can do, said once: the fields outside the rings, sectors, notices
and events that the ring's transitions keep, and for each operation the cases of its answer. -/

namespace Sys2Proof.Laws

open Sys2Proof.Machine

/-! ### The transitions of rings and sectors -/

/-- The two states agree on everything but the decode entries, the runtime records, the sector records, the
notice FIFO, the event flags and the counters. -/
structure SameOutside (s t : State) : Prop where
  pending : t.pending = s.pending
  orderChoice : t.orderChoice = s.orderChoice
  porstn : t.porstn = s.porstn
  lrstn : t.lrstn = s.lrstn
  hostResponse : t.hostResponse = s.hostResponse
  config : t.config = s.config
  pwq : t.pwq = s.pwq
  headIssue : t.headIssue = s.headIssue
  reads : t.reads = s.reads
  discardTime : t.discardTime = s.discardTime
  link : t.link = s.link
  timestamp : t.timestamp = s.timestamp
  port : t.port = s.port
  masks : t.events.masks = s.events.masks
  notices : ∃ q, t.notices = { s.notices with fifo := q }

theorem SameOutside.refl (s : State) : SameOutside s s :=
  ⟨rfl, rfl, rfl, rfl, rfl, rfl, rfl, rfl, rfl, rfl, rfl, rfl, rfl, rfl, _, rfl⟩

theorem SameOutside.trans {s t u : State} (h : SameOutside s t) (k : SameOutside t u) : SameOutside s u := by
  obtain ⟨q, hq⟩ := h.notices
  obtain ⟨p, hp⟩ := k.notices
  exact ⟨k.pending.trans h.pending, k.orderChoice.trans h.orderChoice, k.porstn.trans h.porstn,
    k.lrstn.trans h.lrstn, k.hostResponse.trans h.hostResponse, k.config.trans h.config, k.pwq.trans h.pwq,
    k.headIssue.trans h.headIssue, k.reads.trans h.reads, k.discardTime.trans h.discardTime,
    k.link.trans h.link, k.timestamp.trans h.timestamp, k.port.trans h.port, k.masks.trans h.masks,
    p, by rw [hp, hq]⟩

theorem SameOutside.setRing (s : State) (r : RingNo) (x : RingState) : SameOutside s (s.setRing r x) :=
  ⟨rfl, rfl, rfl, rfl, rfl, rfl, rfl, rfl, rfl, rfl, rfl, rfl, rfl, rfl, _, rfl⟩

theorem SameOutside.setRecord (s : State) (r : RingNo) (i : SectorNo) (x : SectorRecord) :
    SameOutside s (s.setRecord r i x) :=
  ⟨rfl, rfl, rfl, rfl, rfl, rfl, rfl, rfl, rfl, rfl, rfl, rfl, rfl, rfl, _, rfl⟩

theorem SameOutside.post (s : State) (f : EventFlag) : SameOutside s (s.post f) :=
  ⟨rfl, rfl, rfl, rfl, rfl, rfl, rfl, rfl, rfl, rfl, rfl, rfl, rfl, rfl, _, rfl⟩

theorem SameOutside.setCounters (s : State) (c : DeviceCounters) : SameOutside s (s.setCounters c) :=
  ⟨rfl, rfl, rfl, rfl, rfl, rfl, rfl, rfl, rfl, rfl, rfl, rfl, rfl, rfl, _, rfl⟩

/-- A notice joins a FIFO with room, and is dropped with its ring's gap flag set at a full one (R135). -/
theorem pushNotice_cases (s : State) (n : Notice) :
    (s.notices.fifo.length < 16 ∧ s.pushNotice n =
      { s with notices := { s.notices with fifo := s.notices.fifo ++ [{ notice := n }] } }) ∨
    (16 ≤ s.notices.fifo.length ∧ s.pushNotice n =
      (s.setRing n.ring { s.ring n.ring with noticeGap := true }).countNoticeOverrun.post .noticeOverrun) := by
  unfold State.pushNotice
  split
  · exact .inl ⟨‹_›, rfl⟩
  · exact .inr ⟨by omega, rfl⟩

theorem SameOutside.pushNotice (s : State) (n : Notice) : SameOutside s (s.pushNotice n) := by
  obtain ⟨-, h⟩ | ⟨-, h⟩ := pushNotice_cases s n <;> rw [h]
  · exact ⟨rfl, rfl, rfl, rfl, rfl, rfl, rfl, rfl, rfl, rfl, rfl, rfl, rfl, rfl, _, rfl⟩
  · exact ((SameOutside.setRing _ _ _).trans (SameOutside.setCounters _ _)).trans (SameOutside.post _ _)

/-- A dropped or joined notice changes no decode entry and no sector record. -/
theorem pushNotice_kept (s : State) (n : Notice) :
    (s.pushNotice n).decode = s.decode ∧ (s.pushNotice n).sectors = s.sectors := by
  obtain ⟨-, h⟩ | ⟨-, h⟩ := pushNotice_cases s n <;> rw [h] <;> exact ⟨rfl, rfl⟩

/-- A joined notice changes no ring; a dropped one changes the gap flag of its ring alone. -/
theorem pushNotice_ring (s : State) (n : Notice) (r : RingNo) :
    (s.pushNotice n).ring r = s.ring r ∨
      (r = n.ring ∧ (s.pushNotice n).ring r = { s.ring r with noticeGap := true }) := by
  obtain ⟨-, h⟩ | ⟨-, h⟩ := pushNotice_cases s n <;> rw [h]
  · exact .inl rfl
  · by_cases e : n.ring = r
    · subst e; exact .inr ⟨rfl, by simp⟩
    · exact .inl (by simp [setRing_ring_of_ne _ _ e])

/-- While the queue is disabled nothing is generated, and otherwise the notice takes the ring's lost count and
gap flag (R47, R132). -/
theorem generate_cases (s : State) (n : Notice) :
    (s.notices.enabled = false ∧ s.generate n = s) ∨
    (s.notices.enabled = true ∧ s.generate n =
      (s.setRing n.ring { s.ring n.ring with lostCount := 0, noticeGap := false }).pushNotice
        { n with lost := (s.ring n.ring).lostCount, gap := (s.ring n.ring).noticeGap }) := by
  unfold State.generate
  split
  · next h => exact .inr ⟨h, rfl⟩
  · next h => exact .inl ⟨Bool.not_eq_true _ ▸ h, rfl⟩

theorem SameOutside.generate (s : State) (n : Notice) : SameOutside s (s.generate n) := by
  obtain ⟨-, h⟩ | ⟨-, h⟩ := generate_cases s n <;> rw [h]
  · exact SameOutside.refl s
  · exact (SameOutside.setRing _ _ _).trans (SameOutside.pushNotice _ _)

/-- Generation changes no decode entry and no sector record. -/
theorem generate_kept (s : State) (n : Notice) :
    (s.generate n).decode = s.decode ∧ (s.generate n).sectors = s.sectors := by
  obtain ⟨-, h⟩ | ⟨-, h⟩ := generate_cases s n <;> rw [h]
  · exact ⟨rfl, rfl⟩
  · simpa using pushNotice_kept (s.setRing n.ring { s.ring n.ring with lostCount := 0, noticeGap := false })
      { n with lost := (s.ring n.ring).lostCount, gap := (s.ring n.ring).noticeGap }

/-- Generation changes at most the lost count and the gap flag of a ring. -/
theorem generate_ring (s : State) (n : Notice) (r : RingNo) :
    ∃ c g, (s.generate n).ring r = { s.ring r with lostCount := c, noticeGap := g } := by
  obtain ⟨-, h⟩ | ⟨-, h⟩ := generate_cases s n <;> rw [h]
  · exact ⟨_, _, rfl⟩
  · have base : ∃ c g, (s.setRing n.ring { s.ring n.ring with lostCount := 0, noticeGap := false }).ring r =
        { s.ring r with lostCount := c, noticeGap := g } := by
      by_cases e : n.ring = r
      · subst e; exact ⟨0, false, by simp⟩
      · exact ⟨_, _, setRing_ring_of_ne _ _ e⟩
    obtain ⟨c, g, hb⟩ := base
    obtain hp | ⟨-, hp⟩ := pushNotice_ring
      (s.setRing n.ring { s.ring n.ring with lostCount := 0, noticeGap := false })
      { n with lost := (s.ring n.ring).lostCount, gap := (s.ring n.ring).noticeGap } r
    · exact ⟨c, g, by rw [hp, hb]⟩
    · exact ⟨c, true, by rw [hp, hb]⟩

theorem SameOutside.turnOff (s : State) (r : RingNo) (t : NoticeType) : SameOutside s (s.turnOff r t) :=
  SameOutside.trans
    (t := { s.setRing r { s.ring r with lifecycle := .off } with decode := s.decode.set r none })
    ⟨rfl, rfl, rfl, rfl, rfl, rfl, rfl, rfl, rfl, rfl, rfl, rfl, rfl, rfl, _, rfl⟩ (SameOutside.generate _ _)

/-- A ring that turns OFF loses its decode entry, and no sector record changes (R151, R153). -/
theorem turnOff_kept (s : State) (r : RingNo) (t : NoticeType) :
    (s.turnOff r t).decode = s.decode.set r none ∧ (s.turnOff r t).sectors = s.sectors :=
  generate_kept _ _

/-- A ring that turns OFF is OFF, with the rest of its runtime record kept but for the lost count and the gap
flag (R28, R151, R153). -/
theorem turnOff_ring_same (s : State) (r : RingNo) (t : NoticeType) :
    ∃ c g, (s.turnOff r t).ring r = { s.ring r with lifecycle := .off, lostCount := c, noticeGap := g } := by
  obtain ⟨c, g, h⟩ := generate_ring
    ({ s.setRing r { s.ring r with lifecycle := .off } with decode := s.decode.set r none } : State)
    (s.offNotice r t) r
  refine ⟨c, g, h.trans ?_⟩
  show (_ : RingState) = _
  simp [State.setRing, State.ring]

/-- The test of a STOPPING ring turns it OFF or changes nothing (R151). -/
theorem stopTest_cases (s : State) (r : RingNo) :
    ((s.ring r).lifecycle = .stopping ∧ (s.ring r).fillState = .idle ∧ s.allFree r = true ∧
      s.stopTest r = s.turnOff r .ringOff) ∨
    (¬ ((s.ring r).lifecycle = .stopping ∧ (s.ring r).fillState = .idle ∧ s.allFree r = true) ∧
      s.stopTest r = s) := by
  unfold State.stopTest
  split
  · next h => exact .inl ⟨h.1, h.2.1, h.2.2, rfl⟩
  · next h => exact .inr ⟨h, rfl⟩

/-- The test of a PURGING ring turns it OFF or changes nothing (R153). -/
theorem purgeTest_cases (s : State) (r : RingNo) :
    ((s.ring r).lifecycle = .purging ∧ s.allFree r = true ∧ s.purgeTest r = s.turnOff r .purged) ∨
    (¬ ((s.ring r).lifecycle = .purging ∧ s.allFree r = true) ∧ s.purgeTest r = s) := by
  unfold State.purgeTest
  split
  · next h => exact .inl ⟨h.1, h.2, rfl⟩
  · next h => exact .inr ⟨h, rfl⟩

theorem SameOutside.stopTest (s : State) (r : RingNo) : SameOutside s (s.stopTest r) := by
  obtain ⟨-, -, -, h⟩ | ⟨-, h⟩ := stopTest_cases s r <;> rw [h]
  · exact SameOutside.turnOff s r _
  · exact SameOutside.refl s

theorem SameOutside.purgeTest (s : State) (r : RingNo) : SameOutside s (s.purgeTest r) := by
  obtain ⟨-, -, h⟩ | ⟨-, h⟩ := purgeTest_cases s r <;> rw [h]
  · exact SameOutside.turnOff s r _
  · exact SameOutside.refl s

/-- Every sector of a ring is FREE. -/
theorem allFree_iff (s : State) (r : RingNo) : s.allFree r = true ↔ ∀ i, (s.record r i).state = .free := by
  simp only [State.allFree, Vector.all_eq_true, decide_eq_true_eq, State.record]
  exact ⟨fun h i => h i.val i.isLt, fun h i hi => h ⟨i, hi⟩⟩

theorem SameOutside.advanceRing (s : State) (r : RingNo) : SameOutside s (s.advanceRing r) :=
  SameOutside.setRing _ _ _

/-- A sector becomes READY, counted, and with its notice while the ring's notices are on (R17). -/
theorem becomeReady_cases (s : State) (r : RingNo) (i : SectorNo) :
    ∃ t, t = (s.setRecord r i { s.record r i with state := .ready }).setRing r (s.ring r).countDelivered ∧
      (((s.cfg r).noticesOn = true ∧ s.becomeReady r i = t.generate (s.messageNotice r i)) ∨
        ((s.cfg r).noticesOn = false ∧ s.becomeReady r i = t)) := by
  refine ⟨_, rfl, ?_⟩
  unfold State.becomeReady
  split
  · next h => exact .inl ⟨h, rfl⟩
  · next h => exact .inr ⟨Bool.not_eq_true _ ▸ h, rfl⟩

theorem SameOutside.becomeReady (s : State) (r : RingNo) (i : SectorNo) :
    SameOutside s (s.becomeReady r i) := by
  obtain ⟨t, rfl, ⟨-, h⟩ | ⟨-, h⟩⟩ := becomeReady_cases s r i <;> rw [h]
  · exact ((SameOutside.setRecord _ _ _ _).trans (SameOutside.setRing _ _ _)).trans
      (SameOutside.generate _ _)
  · exact (SameOutside.setRecord _ _ _ _).trans (SameOutside.setRing _ _ _)

theorem SameOutside.becomeFree (s : State) (r : RingNo) (i : SectorNo) : SameOutside s (s.becomeFree r i) :=
  SameOutside.setRecord _ _ _ _

/-- A settled sector takes the transition of its state at pending 0, or changes nothing (R17, R19, R21). -/
theorem settle_cases (s : State) (r : RingNo) (i : SectorNo) :
    ((s.record r i).pending = 0 ∧ (s.record r i).state = .closing ∧ s.settle r i = s.becomeReady r i) ∨
    ((s.record r i).pending = 0 ∧ (s.record r i).state = .releasing ∧
      s.settle r i = (s.becomeFree r i).stopTest r) ∨
    ((s.record r i).pending = 0 ∧ (s.record r i).state = .purging ∧
      s.settle r i = (s.becomeFree r i).purgeTest r) ∨
    (((s.record r i).pending ≠ 0 ∨ (s.record r i).state = .free ∨ (s.record r i).state = .filling ∨
      (s.record r i).state = .ready) ∧ s.settle r i = s) := by
  unfold State.settle
  split
  · next h => split <;> simp_all
  · next h => exact .inr (.inr (.inr ⟨.inl h, rfl⟩))

theorem SameOutside.settle (s : State) (r : RingNo) (i : SectorNo) : SameOutside s (s.settle r i) := by
  obtain ⟨-, -, h⟩ | ⟨-, -, h⟩ | ⟨-, -, h⟩ | ⟨-, h⟩ := settle_cases s r i <;> rw [h]
  · exact SameOutside.becomeReady s r i
  · exact (SameOutside.becomeFree s r i).trans (SameOutside.stopTest _ _)
  · exact (SameOutside.becomeFree s r i).trans (SameOutside.purgeTest _ _)
  · exact SameOutside.refl s

theorem SameOutside.closeOpen (s : State) (r : RingNo) (mark : SectorFlags → SectorFlags) :
    SameOutside s (s.closeOpen r mark) :=
  ((SameOutside.setRecord _ _ _ _).trans (SameOutside.advanceRing _ _)).trans (SameOutside.settle _ _ _)

theorem SameOutside.closeCurrent (s : State) (r : RingNo) (mark : SectorFlags → SectorFlags) :
    SameOutside s (s.closeCurrent r mark) := by
  unfold State.closeCurrent
  split
  · exact (SameOutside.closeOpen s r mark).trans (SameOutside.stopTest _ _)
  · exact (SameOutside.advanceRing s r).trans (SameOutside.stopTest _ _)
  · exact SameOutside.refl s

theorem SameOutside.leaveSector (s : State) (r : RingNo) (i : SectorNo) (lost : Bool) :
    SameOutside s (s.leaveSector r i lost) :=
  (SameOutside.setRecord _ _ _ _).trans (SameOutside.settle _ _ _)

theorem SameOutside.reportLost (s : State) (lost : Bool) : SameOutside s (s.reportLost lost) := by
  unfold State.reportLost
  split
  · exact (SameOutside.setCounters _ _).trans (SameOutside.post _ _)
  · exact SameOutside.refl s

/-! ### The Posted Write Queue -/

/-- No entry of an empty queue is on a line. -/
@[simp] theorem lineHits_nil (line : Addr) : lineHits line [] = [] := rfl

/-- The places of the entries of a line are those at which an entry of the line stands (R80, R96). -/
theorem mem_lineHits {line : Addr} {q : List QueueEntry} {j : Nat} :
    j ∈ lineHits line q ↔ ∃ e, q[j]? = some e ∧ e.line = line := by
  induction q generalizing j with
  | nil => simp
  | cons e q ih =>
    cases j with
    | zero => by_cases h : e.line = line <;> simp [lineHits, h]
    | succ j => by_cases h : e.line = line <;> simp [lineHits, h, ih]

/-- A write that joins the tail adds its own place on its own line, and none on another (R99). -/
theorem lineHits_append (line : Addr) (q : List QueueEntry) (e : QueueEntry) :
    lineHits line (q ++ [e]) = lineHits line q ++ if e.line = line then [q.length] else [] := by
  induction q with
  | nil => simp [lineHits]
  | cons x q ih => by_cases h : e.line = line <;> simp [lineHits, ih, h, List.map_append]

/-- When the head leaves, its place leaves and the others move up (R98). -/
theorem lineHits_tail (line : Addr) (q : List QueueEntry) :
    lineHits line q.tail = ((lineHits line q).filter (· ≠ 0)).map (· - 1) := by
  cases q with
  | nil => rfl
  | cons e q =>
    by_cases h : e.line = line <;>
      simp [lineHits, h, List.filter_map, Function.comp_def]

/-- The departure of the head of a queue, by the kind of the head (R86). -/
theorem popHead_cons (s : State) (lost : Bool) {e : QueueEntry} {q : List QueueEntry} (h : s.pwq = e :: q) :
    s.popHead lost =
      match e.kind with
      | .pass => s.dropHead.reportLost lost
      | .fill r i => (s.dropHead.reportLost lost).leaveSector r i lost
      | .close r i => (s.dropHead.reportLost lost).leaveSector r i lost
      | .release r i => (s.dropHead.reportLost lost).leaveSector r i false := by
  cases hk : e.kind <;> simp [State.popHead, h, hk]

@[simp] theorem popHead_nil (s : State) (lost : Bool) (h : s.pwq = []) : s.popHead lost = s := by
  simp [State.popHead, h]

/-- The departure of the head changes, beyond the rings, sectors, notices and events, the queue, the issue
state and the read entries, as the removal of the head does. -/
theorem popHead_outside (s : State) (lost : Bool) (h : s.pwq ≠ []) :
    SameOutside s.dropHead (s.popHead lost) := by
  obtain ⟨e, q, hq⟩ : ∃ e q, s.pwq = e :: q := by
    cases hp : s.pwq with
    | nil => exact absurd hp h
    | cons e q => exact ⟨e, q, rfl⟩
  rw [popHead_cons s lost hq]
  split
  · exact SameOutside.reportLost _ _
  all_goals exact (SameOutside.reportLost _ _).trans (SameOutside.leaveSector _ _ _ _)

/-- A head to be retired stands in a queue that is not empty. -/
theorem pwq_ne_nil_of_headIsPurged {s : State} (h : s.headIsPurged = true) : s.pwq ≠ [] := by
  intro hq
  simp [State.headIsPurged, hq] at h

/-- What holds and is kept by the retirement of one head holds after every retirement (R90). -/
theorem retireUpTo_induct {P : State → Prop}
    (keep : ∀ t, P t → t.headIsPurged = true → t.headIssue ≠ .inFlight → P (t.popHead false)) :
    ∀ n s, P s → P (State.retireUpTo n s)
  | 0, _, h => h
  | n + 1, s, h => by
    unfold State.retireUpTo
    split
    · next c =>
      simp only [Bool.and_eq_true, decide_eq_true_eq] at c
      exact retireUpTo_induct keep n _ (keep s h c.1 c.2)
    · exact h

theorem retire_induct {P : State → Prop} {s : State} (h : P s)
    (keep : ∀ t, P t → t.headIsPurged = true → t.headIssue ≠ .inFlight → P (t.popHead false)) : P s.retire :=
  retireUpTo_induct keep _ s h

/-- The queue is one entry shorter after a departure (R86). -/
theorem popHead_pwq (s : State) (lost : Bool) : (s.popHead lost).pwq = s.pwq.tail := by
  by_cases h : s.pwq = []
  · simp [h]
  · exact (popHead_outside s lost h).pwq

/-- Enough retirements leave a head that is not to be retired (R90). -/
theorem retireUpTo_done : ∀ n (s : State), s.pwq.length ≤ n →
    (State.retireUpTo n s).headIsPurged = true → (State.retireUpTo n s).headIssue = .inFlight
  | 0, s, h, p => absurd (List.length_eq_zero_iff.1 (Nat.le_zero.1 h)) (pwq_ne_nil_of_headIsPurged p)
  | n + 1, s, h, p => by
    revert p
    unfold State.retireUpTo
    split
    · intro p
      exact retireUpTo_done n _ (by rw [popHead_pwq]; simp; omega) p
    · next c =>
      intro p
      simp only [p, Bool.true_and, decide_eq_true_eq] at c
      exact Classical.not_not.1 c

/-- After the retirements no head that is to be retired waits (R23, R90). -/
theorem retire_done (s : State) : s.retire.headIsPurged = true → s.retire.headIssue = .inFlight :=
  retireUpTo_done _ s (Nat.le_refl _)

/-- A queue whose head is not to be retired is left as it is. -/
theorem retire_of_not_purged (s : State) (h : s.headIsPurged = false) : s.retire = s := by
  unfold State.retire
  cases s.pwq.length with
  | zero => rfl
  | succ n => simp [State.retireUpTo, h]

/-! ### The Delayed Read Table -/

/-- The entry found for a read is in the table and is that read's (R97). -/
theorem findRead_some {s : State} {k : ReadRequest} {e : ReadEntry} (h : s.findRead k = some e) :
    e ∈ s.reads ∧ e.request = k :=
  ⟨List.mem_of_find?_eq_some h, by simpa using List.find?_some h⟩

/-- No entry is found for a read exactly when the table holds none of it. -/
theorem findRead_none {s : State} {k : ReadRequest} : s.findRead k = none ↔ ∀ e ∈ s.reads, e.request ≠ k := by
  simp [State.findRead]

/-- Where no two entries are for one read, an entry of the table is the one found (R93). -/
theorem findRead_of_mem {s : State} {e : ReadEntry} (d : (s.reads.map ReadEntry.request).Nodup)
    (h : e ∈ s.reads) : s.findRead e.request = some e := by
  unfold State.findRead
  generalize s.reads = l at d h
  induction l with
  | nil => simp at h
  | cons x l ih =>
    simp only [List.map_cons, List.nodup_cons] at d
    obtain rfl | h := List.mem_cons.1 h
    · simp
    · have : x.request ≠ e.request := fun eq => d.1 (eq ▸ List.mem_map_of_mem h)
      simp [this, ih d.2 h]

/-- The effect of a write on an entry of the table: none on another line, and by its state on its own
(R99). -/
theorem overlap_cases (e : ReadEntry) (line : Addr) (q : List QueueEntry) :
    (e.line ≠ line ∧ e.overlap line q = e) ∨
    (e.line = line ∧ (∃ b, e.phase = .queued b) ∧
      e.overlap line q = { e with counted := e.counted ++ [q.length - 1] }) ∨
    (e.line = line ∧ (∃ b, e.phase = .issued b) ∧ e.overlap line q = { e with phase := .issued true }) ∨
    (e.line = line ∧ (∃ x n, e.phase = .complete x n) ∧ e.overlap line q = e.requeue q) := by
  unfold ReadEntry.overlap
  split
  · next h => cases hp : e.phase <;> simp [h]
  · next h => exact .inl ⟨h, rfl⟩

/-- The overlap of a write keeps what names the entry. -/
@[simp] theorem overlap_request (e : ReadEntry) (line : Addr) (q : List QueueEntry) :
    (e.overlap line q).request = e.request ∧ (e.overlap line q).tag = e.tag := by
  obtain ⟨-, h⟩ | ⟨-, -, h⟩ | ⟨-, -, h⟩ | ⟨-, -, h⟩ := overlap_cases e line q <;> rw [h] <;> exact ⟨rfl, rfl⟩

/-! ### The memory link -/

/-- A grant goes to the first eligible requester of the rotation, or to none (R116). -/
theorem grant_cases (s : State) :
    (s.winner = none ∧ s.grant = s) ∨
    (∃ q, s.winner = some q ∧ s.eligible q = true ∧ s.grant = (s.issue q).setNext q.after) := by
  unfold State.grant
  cases h : s.winner with
  | none => exact .inl ⟨rfl, rfl⟩
  | some q => exact .inr ⟨q, rfl, List.find?_some h, rfl⟩

/-- What a response finds for its tag (R112 to R114, R185). -/
theorem holder_cases (s : State) (tag : BitVec 2) :
    (tag = 0 ∧ ((s.link.writeSlot = .free ∧ s.holder tag = .discarded) ∨
      (s.link.writeSlot = .orphaned ∧ s.holder tag = .orphaned) ∨
      (s.link.writeSlot = .occupied .queueHead ∧ s.holder tag = .queueHead) ∨
      (s.link.writeSlot = .occupied .noticeHead ∧ s.holder tag = .noticeHead))) ∨
    (tag = 1 ∧ s.holder tag = s.link.readA.holder) ∨
    (tag = 2 ∧ s.holder tag = s.link.readB.holder) ∨
    (tag = 3 ∧ s.holder tag = .discarded) := by
  have h : ∀ t : BitVec 2, t = 0 ∨ t = 1 ∨ t = 2 ∨ t = 3 := by decide
  obtain rfl | rfl | rfl | rfl := h tag
  · refine .inl ⟨rfl, ?_⟩
    cases hw : s.link.writeSlot with
    | free => simp [State.holder, hw]
    | orphaned => simp [State.holder, hw]
    | occupied o => cases o <;> simp [State.holder, hw]
  · exact .inr (.inl ⟨rfl, by simp [State.holder]⟩)
  · exact .inr (.inr (.inl ⟨rfl, by simp [State.holder]⟩))
  · exact .inr (.inr (.inr ⟨rfl, by simp [State.holder]⟩))

end Sys2Proof.Laws
end

