-- ==== Sys2Proof/Laws/Outcomes.lean ====
section
/-! SUPPORT. What the shared operations of the notices, the ways to OFF, the departures and the closes give, in
the terms of the statements (Safety.lean): one equation for each. -/

namespace Sys2Proof.Laws

open Sys2Proof.Machine Sys2Proof.Safety

theorem setRing_eq (s : State) (r : RingNo) (x : RingState) : s.setRing r x = withRing s r x := rfl

theorem setRecord_eq (s : State) (r : RingNo) (i : SectorNo) (x : SectorRecord) :
    s.setRecord r i x = withRecord s r i x := rfl

/-! ### withRing and withRecord, field by field -/

@[simp] theorem withRing_pending (s : State) (r : RingNo) (x : RingState) :
    (withRing s r x).pending = s.pending := rfl
@[simp] theorem withRing_orderChoice (s : State) (r : RingNo) (x : RingState) :
    (withRing s r x).orderChoice = s.orderChoice := rfl
@[simp] theorem withRing_porstn (s : State) (r : RingNo) (x : RingState) : (withRing s r x).porstn = s.porstn := rfl
@[simp] theorem withRing_lrstn (s : State) (r : RingNo) (x : RingState) : (withRing s r x).lrstn = s.lrstn := rfl
@[simp] theorem withRing_hostResponse (s : State) (r : RingNo) (x : RingState) :
    (withRing s r x).hostResponse = s.hostResponse := rfl
@[simp] theorem withRing_decode (s : State) (r : RingNo) (x : RingState) : (withRing s r x).decode = s.decode := rfl
@[simp] theorem withRing_config (s : State) (r : RingNo) (x : RingState) : (withRing s r x).config = s.config := rfl
@[simp] theorem withRing_sectors (s : State) (r : RingNo) (x : RingState) :
    (withRing s r x).sectors = s.sectors := rfl
@[simp] theorem withRing_pwq (s : State) (r : RingNo) (x : RingState) : (withRing s r x).pwq = s.pwq := rfl
@[simp] theorem withRing_headIssue (s : State) (r : RingNo) (x : RingState) :
    (withRing s r x).headIssue = s.headIssue := rfl
@[simp] theorem withRing_reads (s : State) (r : RingNo) (x : RingState) : (withRing s r x).reads = s.reads := rfl
@[simp] theorem withRing_discardTime (s : State) (r : RingNo) (x : RingState) :
    (withRing s r x).discardTime = s.discardTime := rfl
@[simp] theorem withRing_notices (s : State) (r : RingNo) (x : RingState) :
    (withRing s r x).notices = s.notices := rfl
@[simp] theorem withRing_link (s : State) (r : RingNo) (x : RingState) : (withRing s r x).link = s.link := rfl
@[simp] theorem withRing_events (s : State) (r : RingNo) (x : RingState) : (withRing s r x).events = s.events := rfl
@[simp] theorem withRing_timestamp (s : State) (r : RingNo) (x : RingState) :
    (withRing s r x).timestamp = s.timestamp := rfl
@[simp] theorem withRing_port (s : State) (r : RingNo) (x : RingState) : (withRing s r x).port = s.port := rfl
@[simp] theorem withRing_window (s : State) (r r₀ : RingNo) (x : RingState) :
    (withRing s r x).window r₀ = s.window r₀ := rfl

@[simp] theorem withRecord_pending (s : State) (r : RingNo) (i : SectorNo) (x : SectorRecord) :
    (withRecord s r i x).pending = s.pending := rfl
@[simp] theorem withRecord_orderChoice (s : State) (r : RingNo) (i : SectorNo) (x : SectorRecord) :
    (withRecord s r i x).orderChoice = s.orderChoice := rfl
@[simp] theorem withRecord_porstn (s : State) (r : RingNo) (i : SectorNo) (x : SectorRecord) :
    (withRecord s r i x).porstn = s.porstn := rfl
@[simp] theorem withRecord_lrstn (s : State) (r : RingNo) (i : SectorNo) (x : SectorRecord) :
    (withRecord s r i x).lrstn = s.lrstn := rfl
@[simp] theorem withRecord_hostResponse (s : State) (r : RingNo) (i : SectorNo) (x : SectorRecord) :
    (withRecord s r i x).hostResponse = s.hostResponse := rfl
@[simp] theorem withRecord_decode (s : State) (r : RingNo) (i : SectorNo) (x : SectorRecord) :
    (withRecord s r i x).decode = s.decode := rfl
@[simp] theorem withRecord_config (s : State) (r : RingNo) (i : SectorNo) (x : SectorRecord) :
    (withRecord s r i x).config = s.config := rfl
@[simp] theorem withRecord_rings (s : State) (r : RingNo) (i : SectorNo) (x : SectorRecord) :
    (withRecord s r i x).rings = s.rings := rfl
@[simp] theorem withRecord_pwq (s : State) (r : RingNo) (i : SectorNo) (x : SectorRecord) :
    (withRecord s r i x).pwq = s.pwq := rfl
@[simp] theorem withRecord_headIssue (s : State) (r : RingNo) (i : SectorNo) (x : SectorRecord) :
    (withRecord s r i x).headIssue = s.headIssue := rfl
@[simp] theorem withRecord_reads (s : State) (r : RingNo) (i : SectorNo) (x : SectorRecord) :
    (withRecord s r i x).reads = s.reads := rfl
@[simp] theorem withRecord_discardTime (s : State) (r : RingNo) (i : SectorNo) (x : SectorRecord) :
    (withRecord s r i x).discardTime = s.discardTime := rfl
@[simp] theorem withRecord_notices (s : State) (r : RingNo) (i : SectorNo) (x : SectorRecord) :
    (withRecord s r i x).notices = s.notices := rfl
@[simp] theorem withRecord_link (s : State) (r : RingNo) (i : SectorNo) (x : SectorRecord) :
    (withRecord s r i x).link = s.link := rfl
@[simp] theorem withRecord_events (s : State) (r : RingNo) (i : SectorNo) (x : SectorRecord) :
    (withRecord s r i x).events = s.events := rfl
@[simp] theorem withRecord_timestamp (s : State) (r : RingNo) (i : SectorNo) (x : SectorRecord) :
    (withRecord s r i x).timestamp = s.timestamp := rfl
@[simp] theorem withRecord_port (s : State) (r : RingNo) (i : SectorNo) (x : SectorRecord) :
    (withRecord s r i x).port = s.port := rfl
@[simp] theorem withRecord_window (s : State) (r r₀ : RingNo) (i : SectorNo) (x : SectorRecord) :
    (withRecord s r i x).window r₀ = s.window r₀ := rfl

@[simp] theorem withRing_ring (s : State) (r r' : RingNo) (x : RingState) :
    (withRing s r x).ring r' = if r' = r then x else s.ring r' := by
  by_cases h : r' = r
  · subst h
    simp [withRing, State.ring]
  · have : r.val ≠ r'.val := fun e => h (Fin.ext e.symm)
    simp [withRing, State.ring, h, Vector.getElem_set_ne, this]

@[simp] theorem withRecord_record (s : State) (r r' : RingNo) (i i' : SectorNo) (x : SectorRecord) :
    (withRecord s r i x).record r' i' = if r' = r ∧ i' = i then x else s.record r' i' := by
  by_cases h : r' = r
  · subst h
    by_cases k : i' = i
    · subst k
      simp [withRecord, State.record]
    · have : i.val ≠ i'.val := fun e => k (Fin.ext e.symm)
      simp [withRecord, State.record, k, Vector.getElem_set_ne, this]
  · have : r.val ≠ r'.val := fun e => h (Fin.ext e.symm)
    simp [withRecord, State.record, h, Vector.getElem_set_ne, this]

@[simp] theorem withRing_record (s : State) (r r' : RingNo) (x : RingState) (i : SectorNo) :
    (withRing s r x).record r' i = s.record r' i := rfl

@[simp] theorem withRing_cfg (s : State) (r r' : RingNo) (x : RingState) : (withRing s r x).cfg r' = s.cfg r' := rfl

@[simp] theorem withRecord_ring (s : State) (r r' : RingNo) (i : SectorNo) (x : SectorRecord) :
    (withRecord s r i x).ring r' = s.ring r' := rfl

@[simp] theorem withRecord_cfg (s : State) (r r' : RingNo) (i : SectorNo) (x : SectorRecord) :
    (withRecord s r i x).cfg r' = s.cfg r' := rfl

@[simp] theorem withRing_withRing (s : State) (r : RingNo) (x y : RingState) :
    withRing (withRing s r x) r y = withRing s r y := by simp [withRing]

@[simp] theorem withRecord_withRecord (s : State) (r : RingNo) (i : SectorNo) (x y : SectorRecord) :
    withRecord (withRecord s r i x) r i y = withRecord s r i y := by simp [withRecord]

/-! ### Notices and ways to OFF -/

/-- The generation of a notice (R47, R132, R135). -/
theorem generate_eq (s : State) (n : Notice) :
    s.generate n = announced s { n with lost := (s.ring n.ring).lostCount, gap := (s.ring n.ring).noticeGap } := by
  unfold State.generate announced
  split
  · rename_i h
    unfold State.pushNotice
    split
    · rename_i k
      have : s.notices.fifo.length < 16 := k
      simp [this, setRing_eq]
    · rename_i k
      have : ¬ s.notices.fifo.length < 16 := k
      simp only [this, if_false]
      simp [State.countNoticeOverrun, State.setCounters, State.post, overrun, EventFlag.mask, EventFlag.bit,
        setRing_eq]
  · simp_all

/-- A ring becomes OFF (R134, R151, R153). -/
theorem turnOff_eq (s : State) (r : RingNo) (t : NoticeType) : s.turnOff r t = turnedOff s r t := by
  unfold State.turnOff turnedOff
  rw [generate_eq]
  have h : (({ s.setRing r { s.ring r with lifecycle := .off } with decode := s.decode.set r none } : State).ring r)
      = { s.ring r with lifecycle := .off } := by
    show (withRing s r _).ring r = _
    simp
  simp only [State.offNotice, h]
  rfl

/-- A CLOSING sector with pending 0 becomes READY (R17). -/
theorem becomeReady_eq (s : State) (r : RingNo) (i : SectorNo) (h : (s.record r i).pending = 0) :
    s.becomeReady r i = delivered s r i (s.record r i) := by
  have e : ({ s.record r i with state := .ready, pending := 0 } : SectorRecord) =
      { s.record r i with state := .ready } := by rw [← h]
  unfold State.becomeReady delivered
  simp only [e, RingConfig.noticesOn, generate_eq]
  split <;> rename_i k
  · simp [setRing_eq, setRecord_eq, State.messageNotice, RingState.countDelivered]
  · rfl

/-- What the departure of a tagged entry makes of its sector, by the sector's state (R22, R24, R87). -/
theorem leaveSector_eq (s : State) (r : RingNo) (i : SectorNo) (lost : Bool) :
    s.leaveSector r i lost =
      (withRecord s r i (errorIf lost { s.record r i with pending := (s.record r i).pending - 1 })).settle r i := rfl

/-- The removal of the head (R86). -/
theorem dropHead_eq {s : State} {e : QueueEntry} {q : List QueueEntry} (h : s.pwq = e :: q) :
    s.dropHead = headless s q := by
  unfold State.dropHead headless
  rw [h]
  rfl

/-- A PURGING sector loses a tagged entry without loss of the write (R21, R90). -/
theorem leaveSector_purging (s : State) (r : RingNo) (i : SectorNo) (h : (s.record r i).state = .purging) :
    s.leaveSector r i false = purgedAway s r i := by
  have e : errorIf false { s.record r i with pending := (s.record r i).pending - 1 } =
      { s.record r i with pending := (s.record r i).pending - 1 } := by simp [errorIf]
  rw [leaveSector_eq, e]
  unfold purgedAway State.settle
  simp only [withRecord_record, h, and_self, if_true]
  by_cases k : 2 ≤ (s.record r i).pending
  · have : (s.record r i).pending - 1 ≠ 0 := by omega
    simp [k, this]
  · have z : (s.record r i).pending - 1 = 0 := by omega
    simp only [z, k, if_true, if_false, State.becomeFree, setRecord_eq, withRecord_record, and_self,
      withRecord_withRecord]
    obtain ⟨h1, h2, h3⟩ | ⟨h1, h2⟩ := purgeTest_cases
      (withRecord s r i { s.record r i with state := .free, pending := 0 }) r
    · rw [h3, turnOff_eq, if_pos]
      refine ⟨h1, fun j hj => ?_⟩
      have := (allFree_iff _ _).1 h2 j
      simpa [hj] using this
    · rw [h2, if_neg]
      rintro ⟨a, b⟩
      refine h1 ⟨a, (allFree_iff _ _).2 fun j => ?_⟩
      by_cases hj : j = i
      · simp [hj]
      · simpa [hj] using b j hj

/-- The retirement of one head (R23, R90). -/
theorem popHead_purging {s : State} {e : QueueEntry} {q : List QueueEntry} {r : RingNo} {i : SectorNo}
    (h : s.pwq = e :: q) (k : e.kind = .fill r i ∨ e.kind = .close r i) (p : (s.record r i).state = .purging) :
    s.popHead false = purgedAway (headless s q) r i := by
  rw [popHead_cons s false h, dropHead_eq h]
  rcases k with k | k <;> rw [k] <;> exact leaveSector_purging _ _ _ p

theorem retireUpTo_retired : ∀ n (s : State), s.pwq.length ≤ n → Retired s (State.retireUpTo n s)
  | 0, s, h => .stop s (.inr fun ⟨e, _, _, he, _⟩ => by
      rw [List.length_eq_zero_iff.1 (Nat.le_zero.1 h)] at he
      cases he)
  | n + 1, s, h => by
    unfold State.retireUpTo
    split
    · rename_i p
      simp only [Bool.and_eq_true, decide_eq_true_eq] at p
      obtain ⟨e, r, i, he, k, hp⟩ := (headIsPurged_iff s s.pwq).1 p.1
      cases hq : s.pwq with
      | nil => simp [hq] at he
      | cons x q =>
        obtain rfl : x = e := by simpa [hq] using he
        have := retireUpTo_retired n (s.popHead false) (by rw [popHead_pwq, hq]; simp [hq] at h; simpa using h)
        rw [popHead_purging hq k hp] at this ⊢
        exact .retire s _ x q r i p.2 hq k hp this
    · rename_i p
      refine .stop s ?_
      by_contra c
      rw [not_or, not_not] at c
      exact p (by simp [(headIsPurged_iff s s.pwq).2 c.2, c.1])

/-- Every head that is to be retired is retired, and none else (R90). -/
theorem retire_retired (s : State) : Retired s s.retire := retireUpTo_retired _ s (Nat.le_refl _)

/-- The departure of the head and the retirements that follow (R86, R90). -/
theorem depart_retired (s : State) (lost : Bool) : Retired (s.popHead lost) (s.depart lost) := retire_retired _

/-- The test of a STOPPING ring, after its fill state has become IDLE (R151). -/
theorem shadowEnded_eq (s : State) (r : RingNo) (x : RingState) (h : x.fillState = .idle) :
    (withRing s r x).stopTest r = shadowEnded s r x := by
  unfold shadowEnded
  obtain ⟨h1, -, h3, h4⟩ | ⟨h1, h2⟩ := stopTest_cases (withRing s r x) r
  · rw [h4, turnOff_eq, if_pos]
    exact ⟨by simpa using h1, fun j => by simpa using (allFree_iff _ _).1 h3 j⟩
  · rw [h2, if_neg]
    rintro ⟨a, b⟩
    exact h1 ⟨by simpa using a, by simpa using h, (allFree_iff _ _).2 fun j => by simpa using b j⟩

theorem advanceRing_eq (s : State) (r : RingNo) : s.advanceRing r = withRing s r (closedRing s r (s.ring r)) := rfl

/-- The retirements from a state lead to one state. -/
theorem retired_unique {s t u : State} (h : Retired s t) (k : Retired s u) : t = u := by
  induction h generalizing u with
  | stop s h =>
    cases k with
    | stop => rfl
    | retire _ _ e q r i a b c d =>
      rcases h with h | h
      · exact absurd h a
      · exact absurd ⟨e, r, i, by rw [b]; rfl, c, d⟩ h
  | retire s t e q r i a b c d _ ih =>
    cases k with
    | stop _ h =>
      rcases h with h | h
      · exact absurd h a
      · exact absurd ⟨e, r, i, by rw [b]; rfl, c, d⟩ h
    | retire _ _ e2 q2 r2 i2 a2 b2 c2 d2 k =>
      rw [b] at b2
      cases b2
      have : r2 = r ∧ i2 = i := by
        rcases c with a | a <;> rcases c2 with b | b <;> rw [a] at b <;> cases b <;> exact ⟨rfl, rfl⟩
      obtain ⟨rfl, rfl⟩ := this
      exact ih k

/-- The entries that a condition names are freed (R125). -/
theorem freeReads_eq (s : State) (p : ReadEntry → Bool) : s.freeReads p = freed s p := by
  have key : ∀ x : ReadSlot, x.orphanIf (fun k => s.reads.any fun e => p e && e.inFlight && decide (e.request = k)) =
      if s.reads.any (fun e => p e && e.inFlight && decide (x = .occupied e.request)) then .orphaned else x := by
    intro x
    cases x with
    | free => simp [ReadSlot.orphanIf]
    | orphaned => simp [ReadSlot.orphanIf]
    | occupied k =>
      have : (fun e : ReadEntry => p e && e.inFlight && decide (ReadSlot.occupied k = .occupied e.request)) =
          fun e => p e && e.inFlight && decide (e.request = k) := by
        funext e
        simp [eq_comm]
      rw [this]
      rfl
  unfold State.freeReads freed
  simp only [key]

/-! ### Closes without a trigger -/

@[simp] theorem announced_record (s : State) (n : Notice) (r : RingNo) (i : SectorNo) :
    (announced s n).record r i = s.record r i := by
  unfold announced
  split
  · split <;> rfl
  · rfl

/-- The close of an OPEN message without its trigger (R15, R16). -/
theorem closeCurrent_opened (s : State) (r : RingNo) (m : SectorFlags → SectorFlags)
    (h : (s.ring r).fillState = .opened) :
    s.closeCurrent r m = closedShort (withRing s r (closedRing s r (s.ring r))) r (s.ring r).fillPointer
        (cutShort s r (s.ring r).fillPointer (m (s.record r (s.ring r).fillPointer).flags)) := by
  unfold State.closeCurrent
  rw [h]
  show (s.closeOpen r m).stopTest r = _
  have len : RingConfig.derivedLength (s.cfg r) (s.record r (s.ring r).fillPointer).highWater =
      (if (s.cfg r).modes &&& 3 = 0 then (s.record r (s.ring r).fillPointer).highWater - 8
        else (s.record r (s.ring r).fillPointer).highWater) := by
    simp [RingConfig.derivedLength, RingConfig.isHeader]
  have comm : ∀ (i : SectorNo) (x : SectorRecord), (withRecord s r i x).advanceRing r =
      withRecord (withRing s r (closedRing s r (s.ring r))) r i x := fun _ _ => rfl
  have again : ∀ (a : State) (i : SectorNo) (x y : SectorRecord),
      delivered (withRecord a r i x) r i y = delivered a r i y := by
    intro a i x y
    simp [delivered]
  have hx : s.closeOpen r m = closedShort (withRing s r (closedRing s r (s.ring r))) r (s.ring r).fillPointer
        (cutShort s r (s.ring r).fillPointer (m (s.record r (s.ring r).fillPointer).flags)) := by
    unfold State.closeOpen
    simp only [setRecord_eq, len, comm]
    unfold State.settle closedShort
    simp only [withRecord_record, and_self, if_true]
    by_cases k : (s.record r (s.ring r).fillPointer).pending = 0
    · have k' : (cutShort s r (s.ring r).fillPointer (m (s.record r (s.ring r).fillPointer).flags)).pending = 0 := k
      rw [if_pos k, if_pos k', becomeReady_eq _ _ _ (by simpa using k), again]
      simp only [withRecord_record, and_self, if_true]
      rfl
    · have k' : (cutShort s r (s.ring r).fillPointer (m (s.record r (s.ring r).fillPointer).flags)).pending ≠ 0 := k
      rw [if_neg k, if_neg k']
      rfl
  rw [hx]
  unfold State.stopTest
  rw [if_neg]
  rintro ⟨-, -, c⟩
  have hc := (allFree_iff _ _).1 c (s.ring r).fillPointer
  unfold closedShort at hc
  split at hc
  · unfold delivered at hc
    dsimp only at hc
    split at hc
    · rw [announced_record] at hc; simp at hc
    · simp at hc
  · simp at hc

/-- The end of a shadow without a trigger (R49, R51). -/
theorem closeCurrent_shadow (s : State) (r : RingNo) (m : SectorFlags → SectorFlags)
    (h : (s.ring r).fillState = .shadow) :
    s.closeCurrent r m = shadowEnded s r (closedRing s r (s.ring r)) := by
  unfold State.closeCurrent
  rw [h]
  exact shadowEnded_eq _ _ _ rfl

/-- What LRSTn does to one ring (R51). -/
theorem abortRing_eq (s : State) (r : RingNo) : s.abortRing r = aborted s r := by
  unfold State.abortRing aborted
  split
  · cases h : (s.ring r).fillState with
    | idle => simp [State.closeCurrent, h]
    | opened => exact closeCurrent_opened s r _ h
    | shadow => exact closeCurrent_shadow s r _ h
  · rfl

/-! ### The departure of the head -/

/-- A queue head whose attempt budget is spent departs as lost (R89). -/
theorem headBusy_spent {s : State} {e : QueueEntry} {q : List QueueEntry} (h : s.pwq = e :: q)
    (sp : spent s e.attempts) :
    s.headBusy = s.raiseHeadAttempts.depart true := by
  unfold State.headBusy
  simp only []
  rw [if_pos]
  simp only [State.raiseHeadAttempts, h, State.budgetReached, State.headAttempts]
  simpa [spent] using sp

/-- A response that ends the write of the head: the head leaves, with the effects of its kind, and the
retirements follow (R86 to R90). -/
theorem head_departs {s t : State} {e : QueueEntry} {q : List QueueEntry} {c : Instr} {lost : Bool} {v : EventUnit}
    (w : s.link.writeSlot = .occupied .queueHead) (hq : s.pwq = e :: q) (h : endsHead s e c lost v)
    (ht : t = headless { s with link := { s.link with writeSlot := .free }, events := v } q) :
    exec c s = .next (match e.kind with
      | .pass => t
      | .fill r i => t.leaveSector r i lost
      | .close r i => t.leaveSector r i lost
      | .release r i => t.leaveSector r i false).retire := by
  have hold : s.holder 0 = .queueHead := by simp [State.holder, w]
  obtain ⟨⟨d, rfl⟩, rfl, rfl⟩ | ⟨⟨k, rfl⟩, rfl, rfl⟩ | ⟨rfl, sp, rfl, rfl⟩ := h
  · show Host.Outcome.next (s.okay 0 d) = _
    unfold State.okay
    rw [hold]
    show Host.Outcome.next (State.retire _) = _
    rw [popHead_cons _ _ (e := e) (q := q) (by exact hq), dropHead_eq (e := e) (q := q) (by exact hq)]
    subst ht
    congr 2
  · show Host.Outcome.next (s.error 0) = _
    unfold State.error
    rw [hold]
    show Host.Outcome.next (State.retire _) = _
    rw [popHead_cons _ _ (e := e) (q := q) (by exact hq), dropHead_eq (e := e) (q := q) (by exact hq)]
    subst ht
    congr 2
    cases e.kind <;> simp [State.freeSlot, State.reportLost, headless, State.countWriteLost,
      State.setCounters, State.post, EventFlag.mask, EventFlag.bit, BitVec.or_assoc]
  · show Host.Outcome.next (s.busy 0) = _
    unfold State.busy
    rw [hold]
    show Host.Outcome.next (State.headBusy _) = _
    rw [headBusy_spent (q := q) (by exact hq) (by exact sp)]
    show Host.Outcome.next (State.retire _) = _
    have hr : ((s.freeSlot 0).countBusy.raiseHeadAttempts).pwq = { e with attempts := satSucc e.attempts } :: q := by
      simp [State.raiseHeadAttempts, State.countBusy, State.setCounters, State.freeSlot, hq]
    rw [popHead_cons _ _ hr, dropHead_eq hr]
    subst ht
    congr 2
    cases e.kind <;> simp [State.freeSlot, State.reportLost, headless, State.countWriteLost,
      State.setCounters, State.post, EventFlag.mask, EventFlag.bit, State.raiseHeadAttempts, State.countBusy, hq]

end Sys2Proof.Laws
end

