-- ==== Sys2Proof/Laws/PerInstr.lean ====
section
/-! SUPPORT. Laws of the commands as terms, one lemma for each constructor of `Instr`. -/

namespace Sys2Proof.Laws

/-- The number of words a command carries: those of a write (R157), and those that answer a read (R112). -/
def wordCount : Instr → Nat
  | .writeArrival request => request.rest.length + 1
  | .readArrival _ => 0
  | .grant => 0
  | .okayResponse _ data => data.length
  | .busyResponse _ => 0
  | .errorResponse _ _ => 0
  | .backoffExpiry _ => 0
  | .fillTimerExpiry _ => 0
  | .discardTimerExpiry _ => 0
  | .lrstnAsserted => 0
  | .lrstnNegated => 0
  | .porstnAsserted => 0
  | .porstnNegated _ => 0
  | .enable _ => 0
  | .stop _ => 0
  | .purge _ => 0
  | .flushReads _ => 0
  | .clearCounters _ => 0
  | .noticeEnable _ => 0
  | .noticeDisable _ => 0
  | .datapathReset _ => 0
  | .unknownCommand _ _ => 0
  | .deviceAddress _ _ => 0
  | .offset _ _ => 0
  | .busStop _ => 0
  | .registerWrite _ => 0
  | .eventRegisterWrite _ _ => 0
  | .maskWrite _ _ => 0
  | .inspectionSelect _ => 0
  | .snapshotRead _ => 0
  | .statusByteRead _ => 0
  | .tick => 0

end Sys2Proof.Laws

namespace Sys2Proof.Laws.AtMostEightWords

/-- A command that the links and the port can present carries at most 8 words (R112, R157). -/
def Statement (i : Instr) : Prop := i.wellFormed = true → wordCount i ≤ 8

theorem writeArrival (a : WriteRequest) : Statement (.writeArrival a) := by
  intro h
  have : a.rest.length ≤ 7 := by simpa [Instr.wellFormed] using h
  simp only [wordCount]
  omega
theorem readArrival (a : ReadRequest) : Statement (.readArrival a) := fun _ => Nat.zero_le 8
theorem grant : Statement .grant := fun _ => Nat.zero_le 8
theorem okayResponse (a : BitVec 2) (b : List Word) : Statement (.okayResponse a b) := by
  intro h
  simpa [Instr.wellFormed, wordCount] using h
theorem busyResponse (a : BitVec 2) : Statement (.busyResponse a) := fun _ => Nat.zero_le 8
theorem errorResponse (a : BitVec 2) (b : ErrorKind) : Statement (.errorResponse a b) := fun _ => Nat.zero_le 8
theorem backoffExpiry (a : BackoffOwner) : Statement (.backoffExpiry a) := fun _ => Nat.zero_le 8
theorem fillTimerExpiry (a : RingNo) : Statement (.fillTimerExpiry a) := fun _ => Nat.zero_le 8
theorem discardTimerExpiry (a : ReadRequest) : Statement (.discardTimerExpiry a) := fun _ => Nat.zero_le 8
theorem lrstnAsserted : Statement .lrstnAsserted := fun _ => Nat.zero_le 8
theorem lrstnNegated : Statement .lrstnNegated := fun _ => Nat.zero_le 8
theorem porstnAsserted : Statement .porstnAsserted := fun _ => Nat.zero_le 8
theorem porstnNegated (a : BitVec 2) : Statement (.porstnNegated a) := fun _ => Nat.zero_le 8
theorem enable (a : BitVec 4) : Statement (.enable a) := fun _ => Nat.zero_le 8
theorem stop (a : BitVec 4) : Statement (.stop a) := fun _ => Nat.zero_le 8
theorem purge (a : BitVec 4) : Statement (.purge a) := fun _ => Nat.zero_le 8
theorem flushReads (a : BitVec 4) : Statement (.flushReads a) := fun _ => Nat.zero_le 8
theorem clearCounters (a : BitVec 4) : Statement (.clearCounters a) := fun _ => Nat.zero_le 8
theorem noticeEnable (a : BitVec 4) : Statement (.noticeEnable a) := fun _ => Nat.zero_le 8
theorem noticeDisable (a : BitVec 4) : Statement (.noticeDisable a) := fun _ => Nat.zero_le 8
theorem datapathReset (a : BitVec 4) : Statement (.datapathReset a) := fun _ => Nat.zero_le 8
theorem unknownCommand (a : Byte) (b : BitVec 4) : Statement (.unknownCommand a b) := fun _ => Nat.zero_le 8
theorem deviceAddress (a : BitVec 7) (b : Bool) : Statement (.deviceAddress a b) := fun _ => Nat.zero_le 8
theorem offset (a : Byte) (b : Option Byte) : Statement (.offset a b) := fun _ => Nat.zero_le 8
theorem busStop (a : BusEnd) : Statement (.busStop a) := fun _ => Nat.zero_le 8
theorem registerWrite (a : Byte) : Statement (.registerWrite a) := fun _ => Nat.zero_le 8
theorem eventRegisterWrite (a : RegisterHalf) (b : Byte) : Statement (.eventRegisterWrite a b) := fun _ => Nat.zero_le 8
theorem maskWrite (a : RegisterHalf) (b : Byte) : Statement (.maskWrite a b) := fun _ => Nat.zero_le 8
theorem inspectionSelect (a : Byte) : Statement (.inspectionSelect a) := fun _ => Nat.zero_le 8
theorem snapshotRead (a : Bool) : Statement (.snapshotRead a) := fun _ => Nat.zero_le 8
theorem statusByteRead (a : Bool) : Statement (.statusByteRead a) := fun _ => Nat.zero_le 8
theorem tick : Statement .tick := fun _ => Nat.zero_le 8

end Sys2Proof.Laws.AtMostEightWords
end

