-- ==== Sys2Proof/Laws/Window.lean ====
section
/-! SUPPORT. The register window: the model's map of the window is the table of 12_formats section 12.4, row by
row, and each field reads the value of its row. -/

namespace Sys2Proof.Laws

open Sys2Proof.Machine Sys2Proof.Safety

/-! ### The map -/

theorem ringField_find : ∀ f : RingField, ∀ k : Fin 8, k.val < f.size →
    f.start + f.size ≤ 64 ∧
      ringFields.find? (fun g => decide (g.start ≤ f.start + k.val) && decide (f.start + k.val < g.start + g.size)) =
        some f := by
  intro f
  cases f <;> decide

theorem ringField_size (f : RingField) : f.size ≤ 8 := by cases f <;> decide

/-- Every byte of a field is found at its offset. -/
theorem fieldAt_start (f : Field) (k : Nat) (h : k < f.size) : fieldAt (f.start + k) = some f := by
  have small : ∀ g : Field, g.size ≤ 8 → (∀ j : Fin 8, j.val < g.size → fieldAt (g.start + j.val) = some g) →
      g = f → fieldAt (f.start + k) = some f := by
    intro g hs hj e
    subst e
    exact hj ⟨k, by omega⟩ h
  cases f with
  | ring r f =>
    obtain ⟨h1, h2⟩ := ringField_find f ⟨k, Nat.lt_of_lt_of_le h (ringField_size f)⟩ h
    have hk : k < f.size := h
    have e1 : Field.start (.ring r f) + k - 0x0200 = 64 * r.val + (f.start + k) := by
      show 0x0200 + 64 * r.val + f.start + k - 0x0200 = _
      omega
    have e2 : (64 * r.val + (f.start + k)) % 64 = f.start + k := by omega
    have e3 : (64 * r.val + (f.start + k)) / 64 = r.val := by omega
    have e4 : ¬ Field.start (.ring r f) + k < 0x0200 := by
      show ¬ 0x0200 + 64 * r.val + f.start + k < 0x0200
      omega
    unfold fieldAt
    rw [if_neg e4, e1, e2, e3, h2]
    simp
  | fault j =>
    have all : ∀ j : Fin 10, ∀ i : Fin 4, fieldAt (Field.start (.fault j) + i.val) = some (.fault j) := by decide
    exact all j ⟨k, h⟩
  | _ => exact small _ (by decide) (by decide) rfl

/-- A byte of the window that is found in a field is a byte of that field. -/
theorem fieldAt_some {o : Nat} {f : Field} (ho : o ≤ 0x03FF) (h : fieldAt o = some f) :
    f.start ≤ o ∧ o < f.start + f.size := by
  unfold fieldAt at h
  split at h
  · have := List.find?_some h
    simpa using this
  · rename_i hn
    rw [Option.map_eq_some_iff] at h
    obtain ⟨g, hg, rfl⟩ := h
    have hs := List.find?_some hg
    simp only [Bool.and_eq_true, decide_eq_true_eq] at hs
    have e : (Fin.ofNat 8 ((o - 0x0200) / 64)).val = (o - 0x0200) / 64 := Nat.mod_eq_of_lt (by omega)
    constructor
    · show 0x0200 + 64 * (Fin.ofNat 8 ((o - 0x0200) / 64)).val + g.start ≤ o
      omega
    · show o < 0x0200 + 64 * (Fin.ofNat 8 ((o - 0x0200) / 64)).val + g.start + g.size
      omega

/-! ### The rows -/

theorem setWidth_eq_ofNat {w : Nat} (v : BitVec w) : v.setWidth 64 = BitVec.ofNat 64 v.toNat := by
  apply BitVec.eq_of_toNat_eq
  simp

theorem ofBool_setWidth (b : Bool) : (BitVec.ofBool b).setWidth 64 = BitVec.ofNat 64 b.toNat := by
  cases b <;> rfl

theorem status_value (a b c d : Bool) :
    ((BitVec.ofBool a ++ BitVec.ofBool b ++ BitVec.ofBool c ++ BitVec.ofBool d : BitVec 4).setWidth 8).setWidth 64 =
      BitVec.ofNat 64 (d.toNat + 2 * c.toNat + 4 * b.toNat + 8 * a.toNat) := by
  cases a <;> cases b <;> cases c <;> cases d <;> rfl

theorem low_value (v : BitVec 9) : (v.setWidth 8).setWidth 64 = BitVec.ofNat 64 (v.toNat % 256) := by
  apply BitVec.eq_of_toNat_eq
  simp

theorem high_value (v : BitVec 9) : (v >>> 8).setWidth 64 = BitVec.ofNat 64 (v.toNat / 256) := by
  apply BitVec.eq_of_toNat_eq
  simp only [BitVec.toNat_setWidth, BitVec.toNat_ushiftRight, Nat.shiftRight_eq_div_pow, BitVec.toNat_ofNat]

theorem result_value (x : CommandResult) :
    x.value = BitVec.ofNat 64 (x.ring.toNat + 256 * x.code.toNat + 65536 * verdictCode x.verdict) := by
  have key : ∀ (a b : Byte) (c : Byte) (r : BitVec 4),
      ((a ++ b ++ c ++ r.setWidth 8 : BitVec 32).setWidth 64) =
        BitVec.ofNat 64 (r.toNat + 256 * c.toNat + 65536 * (b.toNat + 256 * a.toNat)) := by
    intro a b c r
    apply BitVec.eq_of_toNat_eq
    have h1 := a.isLt
    have h2 := b.isLt
    have h3 := c.isLt
    have h4 := r.isLt
    have o1 : ∀ x y : Nat, y < 2 ^ 8 → x <<< 8 ||| y = x * 256 + y := by
      intro x y hy
      rw [← Nat.shiftLeft_add_eq_or_of_lt hy, Nat.shiftLeft_eq]
    simp only [BitVec.toNat_setWidth, BitVec.toNat_append, BitVec.toNat_ofNat]
    rw [o1 _ _ h2, o1 _ _ h3, o1 _ _ (by omega)]
    omega
  unfold CommandResult.value
  rw [key]
  congr 2
  cases x.verdict with
  | none => rfl
  | done => rfl
  | refused y => cases y <;> rfl

/-- The model has a row's field at the row's offset, in its bytes and with its value. -/
structure RowReads (s : State) (x : WindowRow) : Prop where
  start : x.field.start = x.offset
  size : x.field.size = x.bytes
  value : s.fieldValue x.field = BitVec.ofNat 64 x.value

/-- What holds of every row of each block holds of every row. -/
theorem every_row {s : State} {P : WindowRow → Prop} (control : ∀ x ∈ controlRows s, P x)
    (counter : ∀ x ∈ counterRows s, P x) (fault : ∀ k, P (faultRow s k)) (ring : ∀ r, ∀ x ∈ ringRows s r, P x)
    {x : WindowRow} (h : isRow s x) : P x := by
  obtain h | h | ⟨k, rfl⟩ | ⟨r, h⟩ := h
  exacts [control x h, counter x h, fault k, ring r x h]

/-- A row's offset, bytes and value are those of its field in the model. -/
theorem row_field {s : State} {x : WindowRow} (h : isRow s x) : RowReads s x := by
  refine every_row ?_ ?_ (fun k => ?_) (fun r => ?_) h
  all_goals
    simp only [controlRows, counterRows, faultRow, ringRows, List.forall_mem_cons, List.not_mem_nil, false_implies,
      implies_true, and_true]
    repeat' apply And.intro
  all_goals
    refine ⟨rfl, rfl, ?_⟩
    dsimp only [State.fieldValue, State.ringFieldValue, State.statusByte, SectorFlags.toByte]
  all_goals with_reducible first
    | exact low_value _
    | exact high_value _
    | exact setWidth_eq_ofNat _
    | exact ofBool_setWidth _
    | exact result_value _
    | exact status_value _ _ _ _
    | skip
  all_goals first
    | rfl
    | simp

/-- Every field has its row. -/
theorem exists_row (s : State) (f : Field) : ∃ x, isRow s x ∧ x.field = f := by
  have control : f ∈ (controlRows s).map WindowRow.field → ∃ x, isRow s x ∧ x.field = f := by
    intro h
    obtain ⟨x, hx, e⟩ := List.mem_map.1 h
    exact ⟨x, .inl hx, e⟩
  have counter : f ∈ (counterRows s).map WindowRow.field → ∃ x, isRow s x ∧ x.field = f := by
    intro h
    obtain ⟨x, hx, e⟩ := List.mem_map.1 h
    exact ⟨x, .inr (.inl hx), e⟩
  cases f with
  | ring r f =>
    have h : Field.ring r f ∈ (ringRows s r).map WindowRow.field := by cases f <;> simp [ringRows]
    obtain ⟨x, hx, e⟩ := List.mem_map.1 h
    exact ⟨x, .inr (.inr (.inr ⟨r, hx⟩)), e⟩
  | fault k => exact ⟨faultRow s k, .inr (.inr (.inl ⟨k, rfl⟩)), rfl⟩
  | _ =>
    first
      | (refine control ?_
         simp [controlRows]
         done)
      | (refine counter ?_
         simp [counterRows])

/-- The field found at a byte of a row is the row's (12_formats section 12.4). -/
theorem fieldAt_row {s : State} {x : WindowRow} {o : Nat} (h : isRow s x) (ho : x.holds o) :
    fieldAt o = some x.field := by
  obtain ⟨h1, h2, -⟩ := row_field h
  have e : o = x.field.start + (o - x.offset) := by
    have := ho.1
    omega
  have k : o - x.offset < x.field.size := by
    have := ho.1
    have := ho.2
    omega
  have := fieldAt_start x.field (o - x.offset) k
  rwa [← e] at this

/-- A byte of no row is in no field (R176). -/
theorem fieldAt_none {s : State} {o : Nat} (ho : o ≤ 0x03FF) (h : ∀ x, isRow s x → ¬ x.holds o) :
    fieldAt o = none := by
  cases e : fieldAt o with
  | none => rfl
  | some f =>
    obtain ⟨x, hx, rfl⟩ := exists_row s f
    obtain ⟨h1, h2, -⟩ := row_field hx
    obtain ⟨k1, k2⟩ := fieldAt_some ho e
    exact absurd ⟨by omega, by omega⟩ (h x hx)

/-! ### Writes -/

/-- A stored field takes its value; COMMAND is taken instead (R177). -/
theorem store_eq (s : State) (f : Field) (v : BitVec 64) (h : f ≠ .command) : s.store f v = fieldWith s f v := by
  unfold State.store fieldWith
  cases f <;> first | rfl | exact absurd rfl h

/-- What the access of a row says of its field: whether it is locked, and whether a write stores it (R149,
R177). -/
structure RowAllows (s : State) (x : WindowRow) : Prop where
  ignored : x.access = .readOnly → s.locked x.field = false ∧ x.field.isStored = false ∧
    x.field ≠ .eventLow ∧ x.field ≠ .eventHigh ∧ x.field ≠ .maskLow ∧ x.field ≠ .maskHigh ∧
    x.field ≠ .inspectSelect
  locked : x.isLocked s ↔ s.locked x.field = true
  stored : x.isOpen s → x.field ≠ .maskLow → x.field ≠ .maskHigh → x.field ≠ .inspectSelect →
    s.locked x.field = false ∧ x.field.isStored = true ∧ x.field ≠ .eventLow ∧ x.field ≠ .eventHigh
  named : (x.field = .eventLow ∨ x.field = .eventHigh ∨ x.field = .maskLow ∨ x.field = .maskHigh ∨
    x.field = .inspectSelect) → s.locked x.field = false ∧ x.bytes = 1

theorem row_access {s : State} {x : WindowRow} (h : isRow s x) : RowAllows s x := by
  refine every_row ?_ ?_ (fun k => ?_) (fun r => ?_) h
  all_goals
    simp only [controlRows, counterRows, faultRow, ringRows, List.forall_mem_cons, List.not_mem_nil, false_implies,
      implies_true, and_true]
    repeat' apply And.intro
  all_goals
    constructor <;>
    simp [WindowRow.isLocked, WindowRow.isOpen, State.locked, Field.isNoticeConfig, Field.isStored,
      RingField.isConfig]

/-- The lowest byte of a value with a byte put below it is that byte. -/
theorem lowest_byte {n : Nat} (high : BitVec n) (low : Byte) : (high ++ low).extractLsb' 0 8 = low := by
  ext i hi
  simp [BitVec.getLsbD_append, hi]

/-- The bytes above one put below a value are the value's own. -/
theorem byte_above {n k : Nat} (high : BitVec n) (low : Byte) (hk : 8 ≤ k) :
    (high ++ low).extractLsb' k 8 = high.extractLsb' (k - 8) 8 := by
  ext i hi
  have : ¬ k + i < 8 := by omega
  simp [BitVec.getLsbD_append, this, show k + i - 8 = k - 8 + i by omega]

/-- The staged bytes in their places (R177). -/
theorem merge_bytes (bytes : Vector (Option Byte) 8) (v : BitVec 64) (j : Fin 8) :
    (mergeBytes bytes v).extractLsb' (8 * j.val) 8 = (bytes[j]).getD (v.extractLsb' (8 * j.val) 8) := by
  unfold mergeBytes
  fin_cases j <;> simp [byteOf, lowest_byte, byte_above]

/-- The bytes staged for a field (R177). -/
theorem stagedBytes_eq {s : State} {f : Field} {bytes : Vector (Option Byte) 8} (h : stagedFor s f bytes) :
    s.stagedBytes f = bytes := by
  unfold State.stagedBytes
  rcases h with h | ⟨rfl, h⟩
  · simp [h]
  · cases e : s.port.staging with
    | none => rfl
    | some t =>
      have : t.field ≠ f := by
        intro hh; subst hh; exact h t.bytes (by rw [e])
      simp [this]

end Sys2Proof.Laws
end

