-- ==== Sys2Proof/Tests/Slice0.lean ====
section
/-! SUPPORT. Tests whose expected values are the spec's worked examples and tables, and, for each statement
that has hypotheses, a theorem that shows a state and operands that meet them. -/

namespace Sys2Proof.Tests

open Sys2Proof.Machine Sys2Proof.Safety

/-! ### Helpers -/

/-- The next state of a command. -/
def after (c : Instr) (s : State) : State :=
  match exec c s with
  | .next t => t
  | .fault _ => s
  | .refused _ => s

/-- A full-mask word. -/
def full (data : Word) : WriteWord := { data := data, mask := 0xFF }

/-- A write of full-mask words. -/
def writeFull (i : InitiatorId) (a : Addr) (first : Word) (rest : List Word) : WriteRequest :=
  { initiator := i, address := a, first := full first, rest := rest.map full }

/-- A read of one word. -/
def read1 (i : InitiatorId) (a : Addr) : ReadRequest := { initiator := i, address := a, countCode := 0 }

/-- Ring 2 of the decoding example (01 section 1.2), with the fill timeout of the pending example. -/
def ring2 : RingConfig :=
  { base := 0x20010000, sizeCode := 2, sectorCount := 8, producer := 3, consumer := 5, monitors := 0x200,
    modes := 0x10, fillTimeout := 10 }

/-- Ring 2 of the decoding example, ACTIVE with fill pointer 3 and next seq 41. -/
def active : State :=
  { State.reset with
    decode := State.reset.decode.set 2 (some ring2.decodeEntry)
    config := State.reset.config.set 2 ring2
    rings := State.reset.rings.set 2 { lifecycle := .active, fillPointer := 3, nextSeq := 41 }
    notices := { base := 0x2000E000, returnAddress := 0x2000F000, enabled := true } }

/-- A state whose sector i of ring 2 is the given record. -/
def withSector (s : State) (i : SectorNo) (x : SectorRecord) : State := withRecord s 2 i x

/-- Write A of the pending example: words 1 to 4 of sector 3. -/
def writeA : WriteRequest := writeFull 3 0x20010C08 1 [2, 3, 4]

/-- Write B of the pending example: words 8 to 15 of sector 3. -/
def writeB : WriteRequest := writeFull 3 0x20010C40 8 [9, 10, 11, 12, 13, 14, 15]

/-- The consumer's read of word 8 of sector 5. -/
def readC : ReadRequest := read1 5 0x20011440

/-- A read of plain memory. -/
def readP : ReadRequest := read1 7 0x1000

/-- Ring 2 in use: sector 3 is open with two writes queued, sector 5 is READY and a read of it is in
flight, sector 6 is RELEASING, a PASS write is in flight at the head and a read waits behind it. -/
def busy : State :=
  let s := withSector (withSector (withSector active
    3 { state := .filling, seq := 41, pending := 2, highWater := 128 })
    5 { state := .ready, seq := 39, length := 64, highWater := 72 })
    6 { state := .releasing, seq := 38, pending := 1 }
  { s with
    pending := [.okayResponse 0 []]
    rings := s.rings.set 2
      { lifecycle := .active, fillPointer := 3, fillState := .opened, fillTimer := some 160, nextSeq := 42 }
    pwq := [
      { address := 0x1000, words := [full 7], kind := .pass },
      { address := 0x20010C08, words := wordsOf writeA, kind := .fill 2 3 },
      { address := 0x20010C40, words := wordsOf writeB, kind := .fill 2 3 },
      { address := 0x20011800, words := [full 0], kind := .release 2 6 }]
    headIssue := .inFlight
    reads := [
      { request := readC, tag := some (2, 5), phase := .issued false, counted := [] },
      { request := readP, tag := none, phase := .queued none, counted := [0] }]
    link := { writeSlot := .occupied .queueHead, readA := .occupied readC } }

/-- Ring 4 of the marker example (02 section 2.6): sector 2 is open with seq 12 and one write queued. -/
def marking : State :=
  { State.reset with
    decode := State.reset.decode.set 4 (some {
      base := 0x40000000, sectorSize := 256, sectorCount := 4, producer := 8, consumer := 10, monitors := 0 })
    config := State.reset.config.set 4 {
      base := 0x40000000, sizeCode := 0, sectorCount := 4, producer := 8, consumer := 10, modes := 0x01,
      marker := 0xA5A5A5A5A5A5A5A5 }
    rings := State.reset.rings.set 4
      { lifecycle := .active, fillPointer := 2, fillState := .opened, nextSeq := 13 }
    sectors := State.reset.sectors.set 4 (State.reset.sectors[4].set 2
      { state := .filling, seq := 12, pending := 1, highWater := 64 })
    pwq := [{ address := 0x40000200, words := [full 1], kind := .fill 4 2 }] }

/-- The six-word write of the marker example. -/
def markerWrite : WriteRequest :=
  { initiator := 8, address := 0x40000240, first := full 1
    rest := [{ data := 0xA5A5A5A5A5A5A5A5, mask := 0x0F }, full 2, full 0xA5A5A5A5A5A5A5A5, full 3, full 4] }

/-- Ring 6 of the DISCARD example (02 section 2.7): it runs full at sector 0 with next seq 20. -/
def discarding : State :=
  { State.reset with
    decode := State.reset.decode.set 6 (some {
      base := 0x60000000, sectorSize := 256, sectorCount := 3, producer := 4, consumer := 11, monitors := 0 })
    config := State.reset.config.set 6 {
      base := 0x60000000, sizeCode := 0, sectorCount := 3, producer := 4, consumer := 11, modes := 0x14 }
    rings := State.reset.rings.set 6 { lifecycle := .active, nextSeq := 20 }
    sectors := State.reset.sectors.set 6 (((State.reset.sectors[6].set 0 { state := .ready, seq := 17 }).set 1
      { state := .ready, seq := 18 }).set 2 { state := .ready, seq := 19 }) }

/-- The purge example (08 section 8.9) before its PURGE. -/
def toPurge : State :=
  { State.reset with
    decode := State.reset.decode.set 0 (some {
      base := 0x08000000, sectorSize := 256, sectorCount := 4, producer := 2, consumer := 3, monitors := 0 })
    config := State.reset.config.set 0 {
      base := 0x08000000, sectorCount := 4, producer := 2, consumer := 3, modes := 0x10 }
    rings := State.reset.rings.set 0
      { lifecycle := .active, fillPointer := 1, fillState := .opened, nextSeq := 52 }
    sectors := State.reset.sectors.set 0 ((((State.reset.sectors[0].set 0
      { state := .closing, seq := 50, pending := 1 }).set 1 { state := .filling, seq := 51, pending := 2 }).set 2
      { state := .releasing, seq := 48, pending := 1 }).set 3 { state := .ready, seq := 49 })
    pwq := [
      { address := 0x1000, words := [full 0], kind := .pass },
      { address := 0x08000000, words := [full 0], kind := .close 0 0 },
      { address := 0x08000200, words := [full 0], kind := .release 0 2 },
      { address := 0x08000108, words := [full 0], kind := .fill 0 1 },
      { address := 0x08000110, words := [full 0], kind := .fill 0 1 }]
    headIssue := .inFlight
    reads := [{ request := read1 3 0x08000300, tag := some (0, 3), phase := .issued false, counted := [] }]
    link := { writeSlot := .occupied .queueHead, readA := .occupied (read1 3 0x08000300) }
    notices := { base := 0x2000E000, returnAddress := 0x2000F000, enabled := true } }

/-- A notice that waits. -/
def waiting : PendingNotice :=
  { notice := {
      type := .message, ring := 2, sector := 3, seq := 41, length := 120, flags := { timedOut := true },
      gap := true, lost := 2, highWater := 128, closeTime := 0x01020304 } }

/-- The notice queue of the notice example (07 section 7.6), with indices and FIFO as given. -/
def noticing (w wd r : BitVec 16) (fifo : List PendingNotice) : State :=
  { active with notices := {
      fifo := fifo, w := w, wd := wd, r := r, base := 0x2000E000, returnAddress := 0x2000F000, enabled := true } }

/-- Ring 5 of the ENABLE example (08 section 8.3) beside ring 2, with the configuration given. -/
def enabling (c : RingConfig) : State := { active with config := active.config.set 5 c }

/-- The port in a write transaction at an offset. -/
def writing (s : State) (o : BitVec 16) : State :=
  { s with port := { s.port with transaction := .writeData, offset := o } }

/-- The port in a read transaction at an offset. -/
def sending (s : State) (o : BitVec 16) : State :=
  { s with port := { s.port with transaction := .reading, offset := o } }

/-! ### Well-formed commands -/

theorem test_wellFormed_refuses_nine_words :
    (Instr.writeArrival (writeFull 0 0 0 [1, 2, 3, 4, 5, 6, 7, 8])).wellFormed = false ∧
      (Instr.writeArrival (writeFull 0 0 0 [1, 2, 3, 4, 5, 6, 7])).wellFormed = true := by decide

theorem test_wellFormed_refuses_nine_words_of_data :
    (Instr.okayResponse 1 [1, 2, 3, 4, 5, 6, 7, 8, 9]).wellFormed = false := by decide

theorem test_wellFormed_refuses_a_known_code :
    (Instr.unknownCommand 0x13 0).wellFormed = false ∧ (Instr.unknownCommand 0x14 0).wellFormed = true := by
  decide

/-! ### Host link -/

/-- 01 section 1.2, the decoding example. -/
theorem test_classify_example :
    active.classify 0x20010C40 4 3 = .ring 2 3 8 .producer ∧
      active.classify 0x20011400 1 5 = .ring 2 5 0 .consumer ∧
      active.classify 0x200117F8 1 9 = .ring 2 5 127 .monitor ∧
      active.classify 0x20010000 2 7 = .ring 2 0 0 .other ∧
      active.classify 0x20012000 1 3 = .pass ∧ active.classify 0x2000F000 1 5 = .noticeReturn := by decide

/-- 01 section 1.5, the pending example: writes A and B. -/
theorem test_writeArrival_opens_and_fills :
    (after (.writeArrival writeA) active).record 2 3 =
        { state := .filling, seq := 41, pending := 1, highWater := 40 } ∧
      (after (.writeArrival writeB) (after (.writeArrival writeA) active)).record 2 3 =
        { state := .filling, seq := 41, pending := 2, highWater := 128 } := by decide

/-- 02 section 2.6, the marker example. -/
theorem test_writeArrival_marker_closes :
    (after (.writeArrival markerWrite) marking).record 4 2 =
        { state := .closing, seq := 12, pending := 2, highWater := 96, length := 88,
          flags := { trailingDrop := true } } ∧
      (after (.writeArrival markerWrite) marking).pwq[1]?.map (fun e => (e.kind, e.words.map WriteWord.mask)) =
        some (.close 4 2, [0xFF, 0x0F, 0xFF, 0xFF, 0, 0]) := by decide

/-- 01 section 1.6: reads of word 16 by consumer, monitor and an unrelated initiator while sector 5 is FREE. -/
theorem test_readArrival_answers_by_role :
    (after (.readArrival (read1 5 0x20011480)) active).hostResponse = some (.fault .notReady) ∧
      (after (.readArrival (read1 9 0x20011480)) active).hostResponse = some (.fault .notReady) ∧
      (after (.readArrival (read1 12 0x20011480)) active).hostResponse = some (.fault .role) := by decide

/-- 01 section 1.6: the first arrival of a monitor's read of a READY sector is answered RETRY with an entry. -/
theorem test_readArrival_creates_an_entry :
    (after (.readArrival (read1 9 0x20011480)) (withSector active 5 { state := .ready })).hostResponse =
        some .retry ∧
      (after (.readArrival (read1 9 0x20011480)) (withSector active 5 { state := .ready })).reads.map
        ReadEntry.tag = [some (2, 5)] := by decide

/-! ### Memory link -/

/-- 07 section 7.6: W is 16, and the head goes to slot 16 mod 16 = 0 at 0x2000E000. -/
theorem test_grant_writes_the_notice_slot :
    (after .grant (noticing 16 16 4 [waiting])).notices.w = 17 ∧
      (after .grant (noticing 16 16 4 [waiting])).link.request =
        some (.write 0x2000E000 waiting.notice.words) := by decide

/-- 12 section 12.2: valid and type, ring, sector, flags, seq 41, length 120; lost 2, high-water 128, close time. -/
theorem test_grant_record_bytes :
    waiting.notice.words = [full 0x0078002931030203, full 0x0102030400800002] := by decide

/-- 01 section 1.5: a write that completes leaves pending one lower and the sector FILLING. -/
theorem test_okayResponse_departs :
    ((after (.okayResponse 0 []) { busy with pwq := busy.pwq.tail }).record 2 3).pending = 1 ∧
      ((after (.okayResponse 0 []) { busy with pwq := busy.pwq.tail }).record 2 3).state = .filling := by decide

/-- 04 R88: an ERROR loses the write. -/
theorem test_errorResponse_loses_the_write :
    ((after (.errorResponse 0 .reserved) { busy with pwq := busy.pwq.tail }).record 2 3).flags.writeError = true ∧
      (after (.errorResponse 0 .error) busy).events.flags = 0x03 := by decide

/-- 06 R121, R122: the power-on backoff is 4 ticks. -/
theorem test_busyResponse_backs_off :
    (after (.busyResponse 0) busy).headIssue = .backoff 4 ∧
      (after (.busyResponse 0) busy).pwq.head?.map QueueEntry.attempts = some 1 := by decide

theorem test_backoffExpiry_waits_for_its_ticks :
    (after (.backoffExpiry .queueHead) { active with headIssue := .backoff 0 }).headIssue = .waiting ∧
      (after (.backoffExpiry .queueHead) { active with headIssue := .backoff 1 }).headIssue = .backoff 1 := by
  decide

/-! ### Time -/

/-- Sector 3 of the pending example with both its writes completed and the fill timer run out. -/
def timedOut : State :=
  { withSector active 3 { state := .filling, seq := 41, highWater := 128 } with
    rings := active.rings.set 2
      { lifecycle := .active, fillPointer := 3, fillState := .opened, fillTimer := some 0, nextSeq := 42 } }

/-- 01 section 1.5: READY at once, length 128 - 8 = 120, TIMED_OUT, and the notice carries both. -/
theorem test_fillTimerExpiry_closes :
    (after (.fillTimerExpiry 2) timedOut).record 2 3 =
        { state := .ready, seq := 41, highWater := 128, length := 120, flags := { timedOut := true } } ∧
      (after (.fillTimerExpiry 2) timedOut).notices.fifo.map
        (fun n => (n.notice.seq, n.notice.length, n.notice.highWater)) = [(41, 120, 128)] := by decide

theorem test_fillTimerExpiry_advances :
    ((after (.fillTimerExpiry 2) timedOut).ring 2).fillPointer = 4 ∧
      (after (.fillTimerExpiry 2) timedOut).events.flags = 0x40 := by decide

theorem test_discardTimerExpiry_frees :
    (after (.discardTimerExpiry readP) { active with
        reads := [{ request := readP, tag := none, phase := .complete .memError 0, counted := [] }] }).reads = [] ∧
      (after (.discardTimerExpiry readP) { active with
        reads := [{ request := readP, tag := none, phase := .complete .memError 0, counted := [] }] }).events.flags =
        0x04 := by decide

/-- 11 R182: the timestamp wraps. -/
theorem test_tick_wraps :
    (after .tick { busy with timestamp := 0xFFFFFFFF }).timestamp = 0 ∧
      ((after .tick busy).ring 2).fillTimer = some 159 := by decide +kernel

/-! ### Reset lines -/

/-- 09 R164 with the one ring: the open message is closed ABORTED with length high-water - 8. -/
theorem test_lrstnAsserted_aborts :
    (busy.linkReset [2]).record 2 3 =
        { state := .closing, seq := 41, pending := 2, highWater := 128, length := 120,
          flags := { aborted := true } } ∧
      (busy.linkReset [2]).link.readA = .orphaned ∧ (busy.linkReset [2]).reads = [] := by decide

theorem test_lrstnNegated : (after .lrstnNegated { busy with lrstn := true }).lrstn = false := by decide

theorem test_porstnAsserted_abandons :
    (after .porstnAsserted (writing active 0x10)).port.transaction = .idle ∧
      (after .tick (after .porstnAsserted active)).timestamp = 0 := by decide

/-- 11 R175: MA1..MA0 of 3 give 0x3D. -/
theorem test_porstnNegated_samples :
    (after (.porstnNegated 3) busy).port.address = 0x3D ∧ (after (.porstnNegated 3) busy).pwq = [] := by decide

/-! ### Commands -/

/-- 08 section 8.3, the ENABLE example: DONE, and REFUSED with OVERLAP, BAD_CONFIG, BAD_CONFIG, OVERLAP. -/
theorem test_enable_example :
    (after (.enable 5) (enabling
        { base := 0x20012000, sizeCode := 4, producer := 4, consumer := 11 })).port.result.verdict = .done ∧
      (after (.enable 5) (enabling
        { base := 0x20011000, sizeCode := 4, producer := 4, consumer := 11 })).port.result.verdict =
        .refused .overlap ∧
      (after (.enable 5) (enabling
        { base := 0x20012200, sizeCode := 2, sectorCount := 4, producer := 4, consumer := 11 })).port.result.verdict =
        .refused .badConfig ∧
      (after (.enable 5) (enabling
        { base := 0xFFFF0000, sizeCode := 6, sectorCount := 8, producer := 4, consumer := 11 })).port.result.verdict =
        .refused .badConfig ∧
      (after (.enable 5) (enabling
        { base := 0x2000E000, producer := 4, consumer := 11 })).port.result.verdict = .refused .overlap := by decide

/-- 08 section 8.3: the state is judged before the configuration. -/
theorem test_enable_refuses_an_active_ring :
    (after (.enable 2) { active with config := active.config.set 2 { sectorCount := 40 } }).port.result =
      { ring := 2, code := 0x01, verdict := .refused .state } := by decide

theorem test_stop_drains :
    ((after (.stop 2) busy).ring 2).lifecycle = .stopping ∧ ((after (.stop 2) active).ring 2).lifecycle = .off := by
  decide +kernel

/-- 08 section 8.9, the purge example: its first and third rows. -/
theorem test_purge_example :
    [0, 1, 2, 3].map (fun i => (((after (.purge 0) toPurge).record 0 i).state,
        ((after (.purge 0) toPurge).record 0 i).pending)) =
        [(.purging, 1), (.purging, 2), (.purging, 1), (.free, 0)] ∧
      (after (.okayResponse 0 []) (after (.purge 0) toPurge)).pwq.map QueueEntry.kind =
        [.release 0 2, .fill 0 1, .fill 0 1] := by decide +kernel

/-- 08 section 8.9: the last rows, from L2's response: the ring is OFF with a PURGED notice of seq 52. -/
theorem test_purge_ends :
    ((after (.okayResponse 0 []) (after .grant (after (.okayResponse 0 []) (after (.purge 0) toPurge)))).ring
        0).lifecycle = .off ∧
      (after (.okayResponse 0 []) (after .grant (after (.okayResponse 0 [])
        (after (.purge 0) toPurge)))).notices.fifo.map (fun n => (n.notice.type, n.notice.sector, n.notice.seq)) =
        [(.purged, 1, 52)] := by decide +kernel

theorem test_flushReads_orphans :
    (after (.flushReads 9) busy).reads = [] ∧ (after (.flushReads 9) busy).link.readA = .orphaned := by decide

theorem test_clearCounters :
    (after (.clearCounters 0) (after (.writeArrival writeA) active)).events.counters = {} := by decide

theorem test_noticeEnable_zeroes :
    (after (.noticeEnable 0) { active with notices := { active.notices with enabled := false, w := 5 } }).notices.w =
        0 ∧
      (after (.noticeEnable 0) active).port.result.verdict = .refused .state := by decide

theorem test_noticeDisable_keeps :
    (after (.noticeDisable 0) (noticing 5 5 3 [])).notices.enabled = false ∧
      (after (.noticeDisable 0) (noticing 5 5 3 [])).notices.r = 3 := by decide

theorem test_datapathReset_keeps_configuration :
    (after (.datapathReset 0) busy).config = busy.config ∧ (after (.datapathReset 0) busy).pwq = [] := by decide

theorem test_unknownCommand_refused :
    (after (.unknownCommand 0x55 4) active).port.result =
      { ring := 4, code := 0x55, verdict := .refused .noRing } := by decide

/-! ### Management port -/

theorem test_deviceAddress_own_alone :
    (after (.deviceAddress 0x3A false) active).port.acked = true ∧
      (after (.deviceAddress 0x3B false) active).port.acked = false := by decide

/-- 11 R176: 0x03FF is the last offset in the window. -/
theorem test_offset_edge :
    (after (.offset 0x03 (some 0xFF)) (after (.deviceAddress 0x3A false) active)).port.offset = 0x03FF ∧
      (after (.offset 0x04 (some 0x00)) (after (.deviceAddress 0x3A false) active)).port.outOfWindow = true := by
  decide

theorem test_busStop_ends_the_mark :
    (after (.busStop .stop) { active with port := { active.port with outOfWindow := true } }).port.outOfWindow =
        false ∧
      (after (.busStop .repeatedStart)
        { active with port := { active.port with outOfWindow := true } }).port.outOfWindow = true := by decide

/-- 12 section 12.4: the base of ring 0 at 0x0200, least significant byte first. -/
theorem test_registerWrite_base :
    ((after (.registerWrite 0x20) (after (.registerWrite 0x01) (after (.registerWrite 0x02)
      (after (.registerWrite 0x03) (writing State.reset 0x0200))))).cfg 0).base = 0x20010203 := by decide

/-- 08 R149: a locked field keeps its value and CONFIG_LOCKED is set. -/
theorem test_registerWrite_locked :
    (after (.registerWrite 0x07) (writing active 0x0284)).config = active.config ∧
      (after (.registerWrite 0x07) (writing active 0x0284)).port.configLocked = true := by decide

theorem test_eventRegisterWrite_clears :
    (after (.eventRegisterWrite .low 0x41)
      { active with events := { active.events with flags := 0x143 } }).events.flags = 0x102 := by decide

theorem test_maskWrite_replaces :
    (after (.maskWrite .high 0xFE) active).events.masks = 0x0FF ∧
      (after (.maskWrite .low 0x00) active).events.masks = 0x100 := by decide

/-- 11 R179: the record 2 × 32 + 3, and a sector past the sector count of 8. -/
theorem test_inspectionSelect_copies :
    (after (.inspectionSelect 0x43) busy).port.snapshot = busy.record 2 3 ∧
      (after (.inspectionSelect 0x48) busy).port.snapshot = {} := by decide

/-- 11 section 11.4: the counter that counts while it is read. -/
def counting (o : BitVec 16) (counter : BitVec 32) (held : Option Holding) : State :=
  { sending active o with
    events := { active.events with counters := { active.events.counters with writesAccepted := counter } }
    port := { (sending active o).port with holding := held } }

theorem test_snapshotRead_example :
    (after (.snapshotRead true) (counting 0x0040 0x000100FF none)).port.sent = some 0xFF ∧
      (after (.snapshotRead true) (counting 0x0041 0x00010100
        (some { field := .writesAccepted, value := 0x000100FF }))).port.sent = some 0x00 ∧
      (after (.snapshotRead true) (counting 0x0041 0x00010102 none)).port.sent = some 0x01 := by decide

/-- 11 R180: bit 0 CONFIG_LOCKED, bit 1 LRSTn, bit 2 NTFY, bit 3 ALRT. -/
theorem test_statusByteRead_bits :
    (after (.statusByteRead true) { noticing 5 5 3 [] with
        events := { active.events with flags := 1, masks := 0 }
        port := { active.port with configLocked := true } }).port.sent = some 0x0D ∧
      (after (.statusByteRead true) { active with
        port := { active.port with configLocked := true } }).port.configLocked = false := by decide

/-! ### The state in use meets every invariant -/

theorem busy_window {r : RingNo} {d : DecodeEntry} (h : busy.window r = some d) :
    r = 2 ∧ d = ring2.decodeEntry := by
  have hr : r = 2 := by
    by_contra hne
    have none : ∀ r : RingNo, r ≠ 2 → busy.window r = none := by decide
    rw [none r hne] at h
    cases h
  subst hr
  exact ⟨rfl, (Option.some.inj h).symm⟩

theorem busy_bounded : Bounded busy where
  queue := by decide
  reads := by decide
  share := by decide
  distinct := by decide
  fifo := by decide
  offset := by decide

theorem busy_consistent : Consistent busy where
  counts := by decide
  fits := by
    have fits : ∀ r i, (match (busy.record r i).state with
        | .free => decide ((busy.record r i).pending = 0)
        | .filling => true
        | .closing => decide (0 < (busy.record r i).pending)
        | .ready => decide ((busy.record r i).pending = 0)
        | .releasing => decide ((busy.record r i).pending = 1)
        | .purging => decide (0 < (busy.record r i).pending)) = true := by decide
    intro r i
    have h := fits r i
    unfold pendingFits
    cases hs : (busy.record r i).state <;> rw [hs] at h <;> simp_all
  decoded := by decide
  copied := by
    intro r d h
    obtain ⟨rfl, rfl⟩ := busy_window h
    decide
  filling := by decide
  off := by decide
  purging := by decide
  purged := by decide

theorem busy_slotsAgree : SlotsAgree busy where
  head := by decide
  nonempty := by decide
  readA := by
    intro k h
    cases h
    exact ⟨_, List.mem_cons_self, rfl, rfl⟩
  readB := by
    intro k h
    cases h
  apart := by
    intro k _ h
    cases h
  held := by decide
  distinct := by decide

theorem busy_readsWait : ReadsWait busy := by
  intro e he
  have hm := (List.mem_cons.1 he).imp id List.mem_singleton.1
  rcases hm with rfl | rfl
  · exact (by decide : ([] : List Nat) = [] ∧ lineHits (lineOf 0x20011440) busy.pwq = [])
  · exact (by decide : [0] = lineHits (lineOf 0x1000) busy.pwq)

theorem busy_taggedReadsReady : TaggedReadsReady busy := by
  intro e he r i ht
  have hm := (List.mem_cons.1 he).imp id List.mem_singleton.1
  rcases hm with rfl | rfl
  · cases ht
    exact ⟨by decide, _, rfl, by decide⟩
  · cases ht

theorem busy_windowsApart : WindowsApart busy where
  rings := by
    intro r r' d d' b hne h h'
    exact absurd ((busy_window h).1.trans (busy_window h').1.symm) hne
  notices := by
    intro r d b _ h hb
    obtain ⟨rfl, rfl⟩ := busy_window h
    have h1 : 0x20010000 ≤ b ∧ b < 0x20012000 := hb
    constructor
    · intro hn
      have h2 : 0x2000E000 ≤ b ∧ b < 0x2000E100 := hn
      omega
    · intro hn
      have h2 : 0x2000F000 ≤ b ∧ b < 0x2000F008 := hn
      omega
  word := by
    intro b _ ⟨hn, hw⟩
    have h1 : 0x2000E000 ≤ b ∧ b < 0x2000E100 := hn
    have h2 : 0x2000F000 ≤ b ∧ b < 0x2000F008 := hw
    omega

theorem busy_timersRun : TimersRun busy where
  running := by decide
  interval := by
    intro r n h
    have hr : r = 2 := by
      by_contra hne
      have none : ∀ r : RingNo, r ≠ 2 → (busy.ring r).fillTimer = none := by decide
      rw [none r hne] at h
      cases h
    subst hr
    cases h
    decide
  pointed := by decide

theorem busy_drained : Drained busy where
  head := by decide
  stopping := by decide
  purging := by decide

/-- The notice queue with an assigned head in flight. -/
def writingNotice : State :=
  let s := noticing 6 5 3 [{ waiting with slot := some 5 }, waiting]
  { s with pending := [.okayResponse 0 []], link := { s.link with writeSlot := .occupied .noticeHead } }

theorem writingNotice_indicesAgree : IndicesAgree writingNotice where
  later := by decide
  assigned := by
    intro n h
    cases h
    decide
  empty := by decide
  inFlight := fun _ => ⟨_, rfl, rfl⟩
  fits := by decide

/-! ### Witnesses: each shows a state and operands that meet the hypotheses of the statement it names -/

/-- A PASS entry. -/
def passEntry : QueueEntry := { address := 0x1000, words := [full 7], kind := .pass }

/-- A state whose queue holds n PASS entries. -/
def withQueue (s : State) (n : Nat) : State := { s with pwq := List.replicate n passEntry }

/-- A waiting entry of a read. -/
def entry (k : ReadRequest) : ReadEntry := { request := k, tag := none, phase := .queued none, counted := [] }

/-- Seven entries, one of them of initiator 7. -/
def seven : List ReadEntry :=
  [read1 7 0x3000, read1 1 0x3000, read1 1 0x3040, read1 2 0x3000, read1 2 0x3040, read1 4 0x3000,
    read1 4 0x3040].map entry

/-- Ring 2 in another lifecycle state. -/
def inLife (s : State) (x : Lifecycle) : State := withRing s 2 { s.ring 2 with lifecycle := x }

/-- The header of a complete message of the length given, written to sector 3 of ring 2. -/
def header (length : Word) : WriteRequest := writeFull 3 0x20010C00 (0x10000 + length) []

/-- The consumer's release of sector 5 of ring 2. -/
def releaseC : WriteRequest := writeFull 5 0x20011400 0 []

/-- The queue head of the given kind alone in the queue, its write in flight. -/
def inFlight (s : State) (k : EntryKind) : State :=
  { s with
    pwq := [{ address := 0x20010C00, words := [full 1], kind := k }]
    headIssue := .inFlight
    link := { s.link with writeSlot := .occupied .queueHead } }

/-- The pending notice FIFO holds n notices. -/
def withNotices (s : State) (n : Nat) : State :=
  { s with notices := { s.notices with fifo := List.replicate n waiting } }

/-- The notice queue disabled. -/
def quiet (s : State) : State := { s with notices := { s.notices with enabled := false } }

theorem not_retires {s : State} {q : List QueueEntry} (h : ({ s with pwq := q } : State).headIsPurged = false) :
    ¬ retires s q := by
  rw [← Laws.headIsPurged_iff, h]
  decide

theorem witness_StepTakesTheFrontCommand : State.reset.pending = [] := by decide

theorem witness_DecoderClassifiesRequests :
    Consistent busy ∧ WindowsApart busy ∧
      ((0x20011FF8 : Addr).toNat % 8 = 0 ∧ (0x20011FF8 : Addr).toNat % 64 + 8 * 1 ≤ 64 ∧
        busy.window 2 = some ring2.decodeEntry ∧ inWindow ring2.decodeEntry 0x20011FFF) ∧
      ((0x2000F000 : Addr).toNat % 8 = 0 ∧ (0x2000F000 : Addr).toNat % 64 + 8 * 8 ≤ 64 ∧
        busy.notices.enabled = true ∧ 0x2000F000 + 8 * 0 = busy.notices.returnAddress.toNat ∧
        ∀ r d b, busy.window r = some d → 0x2000F000 ≤ b → b < 0x2000F000 + 8 * 8 → ¬ inWindow d b) ∧
      ((0x20012000 : Addr).toNat % 8 = 0 ∧
        ¬ (busy.notices.enabled = true ∧
          ∃ k, k < 1 ∧ (0x20012000 : Addr).toNat + 8 * k = busy.notices.returnAddress.toNat) ∧
        ∀ r d b, busy.window r = some d → 0x20012000 ≤ b → b < 0x20012000 + 8 * 1 → ¬ inWindow d b) := by
  refine ⟨busy_consistent, busy_windowsApart, ⟨by decide, by decide, rfl, ?_⟩,
    ⟨by decide, by decide, by decide, by decide, ?_⟩, by decide, by decide, ?_⟩
  · unfold inWindow
    decide
  · intro r d b h h1 h2 hw
    obtain ⟨rfl, rfl⟩ := busy_window h
    have : 0x20010000 ≤ b ∧ b < 0x20012000 := hw
    omega
  · intro r d b h h1 h2 hw
    obtain ⟨rfl, rfl⟩ := busy_window h
    have : 0x20010000 ≤ b ∧ b < 0x20012000 := hw
    omega

theorem witness_MisalignedRequestsFault :
    active.lrstn = false ∧ ¬ ((0x1004 : Addr).toNat % 8 = 0 ∧ (0x1004 : Addr).toNat % 64 + 8 * 1 ≤ 64) ∧
      ¬ ((0x1038 : Addr).toNat % 8 = 0 ∧ (0x1038 : Addr).toNat % 64 + 8 * 2 ≤ 64) := by decide

theorem witness_PassWriteJoinsTheQueue :
    writeOf (withQueue active 31) (writeFull 7 0x1038 1 []) .pass ∧ (withQueue active 31).pwq.length < 32 := by
  unfold writeOf
  decide

theorem witness_ReturnWriteIsSnooped :
    let s := noticing 20 20 4 []
    let q (v : Word) (m : Byte) : WriteRequest :=
      { initiator := 5, address := 0x2000F000, first := { data := v, mask := m }, rest := [] }
    (writeOf s (q 20 0xFF) .noticeReturn ∧ ((20 : BitVec 16) - 4).toNat ≤ ((20 : BitVec 16) - 4).toNat) ∧
      (writeOf s (q 21 0xFF) .noticeReturn ∧ ((20 : BitVec 16) - 4).toNat < ((21 : BitVec 16) - 4).toNat) ∧
      (writeOf s (q 20 0x7F) .noticeReturn ∧ (0x7F : Byte) ≠ 0xFF) ∧ s.pwq.length < 32 := by
  unfold writeOf
  decide

theorem witness_FullQueueAnswersRetry :
    32 ≤ (withQueue active 32).pwq.length ∧ writeOf (withQueue active 32) (writeFull 7 0x1000 1 []) .pass ∧
      writeOf (withQueue active 32) (writeFull 5 0x2000F000 0 []) .noticeReturn ∧
      (let s := withQueue busy 32
       writeOf s writeB (.ring 2 3 8 .producer) ∧ serves s 2 ∧ 3 = (s.ring 2).fillPointer ∧
        passesHeaderChecks (s.cfg 2) 8 writeB ∧ (s.ring 2).fillState = .opened) ∧
      (let s := withQueue active 32
       writeOf s (header 1016) (.ring 2 3 0 .producer) ∧ passesHeaderChecks (s.cfg 2) 0 (header 1016) ∧
        (s.ring 2).fillState = .idle ∧ (s.ring 2).lifecycle = .active ∧ (s.record 2 3).state = .free) ∧
      (let s := withSector (withQueue active 32) 5 { state := .ready }
       writeOf s releaseC (.ring 2 5 0 .consumer) ∧ releaseC.rest = [] ∧ releaseC.first.mask = 0xFF ∧
        (s.record 2 5).state = .ready) := by
  unfold writeOf serves passesHeaderChecks
  decide

theorem witness_OrdinaryWriteIsStored :
    (writeOf busy writeB (.ring 2 3 8 .producer) ∧ 3 = (busy.ring 2).fillPointer ∧ serves busy 2 ∧
        ordinary (busy.cfg 2) 8 writeB ∧ (busy.ring 2).fillState = .opened) ∧
      (let s := withQueue active 31
       writeOf s writeA (.ring 2 3 1 .producer) ∧ ordinary (s.cfg 2) 1 writeA ∧ s.pwq.length < 32 ∧
        (s.ring 2).fillState = .idle ∧ (s.ring 2).lifecycle = .active ∧ (s.record 2 3).state = .free) ∧
      (let q := { markerWrite with rest := markerWrite.rest.take 1 }
       writeOf marking q (.ring 4 2 8 .producer) ∧ ordinary (marking.cfg 4) 8 q ∧
        (marking.ring 4).fillState = .opened) := by
  unfold writeOf serves ordinary
  decide

theorem witness_HeaderCloseEndsTheMessage :
    (writeOf busy (header 1016) (.ring 2 3 0 .producer) ∧ serves busy 2 ∧
        completeHeader (busy.cfg 2) 0 (header 1016) ∧ (busy.ring 2).fillState = .opened) ∧
      (let s := withQueue active 31
       writeOf s (header 0) (.ring 2 3 0 .producer) ∧ completeHeader (s.cfg 2) 0 (header 0) ∧ s.pwq.length < 32 ∧
        (s.ring 2).fillState = .idle ∧ (s.ring 2).lifecycle = .active ∧ (s.record 2 3).state = .free) := by
  unfold writeOf serves completeHeader
  decide

theorem witness_MarkerCloseDropsTrailingWords :
    (writeOf marking markerWrite (.ring 4 2 8 .producer) ∧ serves marking 4 ∧
        markedWords (marking.cfg 4) markerWrite
          [full 1, { data := 0xA5A5A5A5A5A5A5A5, mask := 0x0F }, full 2] (full 0xA5A5A5A5A5A5A5A5)
          [full 3, full 4] ∧ (marking.ring 4).fillState = .opened) ∧
      (let s := { marking with
          rings := marking.rings.set 4 { lifecycle := .active, fillPointer := 2 }
          sectors := State.reset.sectors
          pwq := [] }
       let q := writeFull 8 0x40000200 0xA5A5A5A5A5A5A5A5 []
       writeOf s q (.ring 4 2 0 .producer) ∧ markedWords (s.cfg 4) q [] (full 0xA5A5A5A5A5A5A5A5) [] ∧
        (s.ring 4).fillState = .idle ∧ (s.ring 4).lifecycle = .active ∧ (s.record 4 2).state = .free) := by
  unfold writeOf serves markedWords
  decide

/-- The first write of the DISCARD example. -/
def d1 : WriteRequest := writeFull 4 0x60000008 1 [2, 3, 4, 5, 6, 7]

/-- The header write of the DISCARD example. -/
def d2 : WriteRequest := writeFull 4 0x60000000 0x10038 []

/-- The DISCARD example in its shadow. -/
def shadow (x : Lifecycle) : State :=
  { discarding with rings := discarding.rings.set 6 { lifecycle := x, fillState := .shadow, nextSeq := 21 } }

theorem witness_FullSectorStallsOrShadows :
    (let s := withSector active 3 { state := .ready }
     writeOf s writeA (.ring 2 3 1 .producer) ∧ (s.ring 2).fillState = .idle ∧ (s.record 2 3).state ≠ .free ∧
      (s.cfg 2).modes &&& 12 = 0 ∧ passesHeaderChecks (s.cfg 2) 1 writeA) ∧
    (writeOf discarding d1 (.ring 6 0 1 .producer) ∧ (discarding.ring 6).lifecycle = .active ∧
      (discarding.ring 6).fillState = .idle ∧ (discarding.record 6 0).state ≠ .free ∧
      (discarding.cfg 6).modes &&& 12 = 4 ∧ ordinary (discarding.cfg 6) 1 d1) ∧
    (writeOf discarding d2 (.ring 6 0 0 .producer) ∧ completeHeader (discarding.cfg 6) 0 d2) ∧
    (writeOf (shadow .active) d1 (.ring 6 0 1 .producer) ∧ serves (shadow .active) 6 ∧
      ((shadow .active).ring 6).fillState = .shadow ∧ ordinary ((shadow .active).cfg 6) 1 d1) ∧
    (writeOf (shadow .stopping) d2 (.ring 6 0 0 .producer) ∧ ((shadow .stopping).ring 6).lifecycle = .stopping ∧
      ((shadow .stopping).record 6 0).state ≠ .free ∧ completeHeader ((shadow .stopping).cfg 6) 0 d2) ∧
    (let s := { shadow .stopping with sectors := State.reset.sectors }
     writeOf s d2 (.ring 6 0 0 .producer) ∧ (s.ring 6).fillState = .shadow ∧ (s.ring 6).lifecycle = .stopping ∧
      ∀ j, (s.record 6 j).state = .free) := by
  unfold writeOf serves ordinary completeHeader passesHeaderChecks
  refine ⟨?_, ?_, ?_, ?_, ?_, ?_⟩ <;> decide

theorem witness_ProducerWriteFaults :
    (writeOf active (writeFull 3 0x20011008 1 []) (.ring 2 4 1 .producer) ∧ serves active 2 ∧
        4 ≠ (active.ring 2).fillPointer) ∧
      (writeOf (inLife active .stopping) writeA (.ring 2 3 1 .producer) ∧ serves (inLife active .stopping) 2 ∧
        ((inLife active .stopping).ring 2).lifecycle = .stopping ∧
        ((inLife active .stopping).ring 2).fillState = .idle) ∧
      (writeOf active { header 8 with first := { data := 0, mask := 0xFE } } (.ring 2 3 0 .producer) ∧
        (active.cfg 2).modes &&& 3 = 0 ∧ (0xFE : Byte) ≠ 0xFF) ∧
      (writeOf active (header 1017) (.ring 2 3 0 .producer) ∧ (header 1017).first.mask = 0xFF ∧
        (header 1017).first.data.getLsbD 16 = true ∧
        (active.cfg 2).sectorSize - 8 < ((header 1017).first.data.setWidth 16).toNat) := by
  unfold writeOf serves
  decide

theorem witness_ReleaseOfReadySector :
    let s := withSector (withQueue active 31) 5 { state := .ready }
    writeOf s releaseC (.ring 2 5 0 .consumer) ∧ serves s 2 ∧ s.window 2 = some ring2.decodeEntry ∧
      releaseC.rest = [] ∧ releaseC.first.mask = 0xFF ∧ (s.record 2 5).state = .ready ∧ s.pwq.length < 32 := by
  unfold writeOf serves
  decide

theorem witness_ReleaseAndRoleFaults :
    serves active 2 ∧ (writeOf active releaseC (.ring 2 5 0 .consumer) ∧ (active.record 2 5).state ≠ .ready) ∧
      (writeOf active (writeFull 5 0x20011408 0 []) (.ring 2 5 1 .consumer) ∧
        ¬ (1 = 0 ∧ (writeFull 5 0x20011408 0 []).rest = [] ∧ (writeFull 5 0x20011408 0 []).first.mask = 0xFF)) ∧
      (writeOf active (writeFull 5 0x20011400 0 [0]) (.ring 2 5 0 .consumer) ∧
        (writeFull 5 0x20011400 0 [0]).rest ≠ []) ∧
      writeOf active (writeFull 9 0x20011400 0 []) (.ring 2 5 0 .monitor) ∧
      writeOf active (writeFull 12 0x20011400 0 []) (.ring 2 5 0 .other) ∧
      readOf active (read1 12 0x20011480) (.ring 2 5 16 .other) := by
  unfold writeOf readOf serves
  decide

theorem witness_PurgingRingRefusesRequests :
    let s := inLife active .purging
    (s.ring 2).lifecycle = .purging ∧ writeOf s writeA (.ring 2 3 1 .producer) ∧
      writeOf s releaseC (.ring 2 5 0 .consumer) ∧
      writeOf s (writeFull 9 0x20011400 0 []) (.ring 2 5 0 .monitor) ∧
      writeOf s (writeFull 12 0x20011400 0 []) (.ring 2 5 0 .other) ∧
      readOf s (read1 3 0x20011480) (.ring 2 5 16 .producer) ∧
      readOf s (read1 5 0x20011480) (.ring 2 5 16 .consumer) ∧
      readOf s (read1 9 0x20011480) (.ring 2 5 16 .monitor) ∧
      readOf s (read1 12 0x20011480) (.ring 2 5 16 .other) := by
  unfold writeOf readOf
  decide

theorem witness_ReadTakesAPlace :
    let s := { active with reads := seven }
    let s8 := { active with reads := seven ++ [entry (read1 6 0x3000)] }
    (readOf s readP .pass ∧ (∀ e ∈ s.reads, e.request ≠ readP) ∧ s.reads.length < 8 ∧
        s.reads.countP (fun e => decide (e.request.initiator = readP.initiator)) < 2) ∧
      readOf s (read1 7 0x2000F000) .noticeReturn ∧
      (readOf s (read1 3 0x20010000) (.ring 2 0 0 .producer) ∧ serves s 2) ∧
      (readOf s8 readP .pass ∧ (∀ e ∈ s8.reads, e.request ≠ readP) ∧ 8 ≤ s8.reads.length) ∧
      (readOf s (read1 1 0x1000) .pass ∧ (∀ e ∈ s.reads, e.request ≠ read1 1 0x1000) ∧
        2 ≤ s.reads.countP (fun e => decide (e.request.initiator = 1))) := by
  unfold readOf serves
  decide

theorem witness_CollectionFreesTheEntry :
    (∀ p ∈ [ReadPhase.queued none, .issued true, .complete (.data [7]) 0, .complete .memError 9,
        .complete .budget 4095],
      let e := { entry readP with phase := p }
      let s := { active with reads := [entry (read1 1 0x3000), e] }
      readOf s readP .pass ∧ e ∈ s.reads ∧ e.request = readP ∧ (s.reads.map ReadEntry.request).Nodup) ∧
    (∀ k ∈ [read1 3 0x20011440, read1 5 0x20011440, read1 9 0x20011440],
      let s := { active with reads := [{ entry k with phase := .complete .budget 1 }] }
      readOf s k (.ring 2 5 8 (ring2.decodeEntry.roleOf k.initiator)) ∧ serves s 2 ∧
        (s.reads.map ReadEntry.request).Nodup) ∧
    (let k := read1 5 0x2000F000
     readOf { active with reads := [{ entry k with phase := .complete .memError 1 }] } k .noticeReturn) := by
  unfold readOf serves
  decide

theorem witness_GateAnswersBySectorState :
    (∀ x ∈ [SectorState.free, .filling, .releasing, .closing, .ready],
      let s := withSector active 5 { state := x }
      readOf s readC (.ring 2 5 8 .consumer) ∧ serves s 2 ∧ (∀ e ∈ s.reads, e.request ≠ readC) ∧
        (s.record 2 5).state = x ∧ s.reads.length < 8) ∧
    (let s := withSector { active with reads := seven ++ [entry (read1 6 0x3000)] } 5 { state := .ready }
     readOf s (read1 9 0x20011440) (.ring 2 5 8 .monitor) ∧ (s.record 2 5).state = .ready ∧
      8 ≤ s.reads.length) := by
  unfold readOf serves
  decide

/-- The queue of the state in use with no request in flight. -/
def offering (next : Requester) : State :=
  { busy with
    headIssue := .waiting
    reads := [{ entry readP with counted := [0] }, entry (read1 7 0x3000)]
    link := { next := next }
    notices := { busy.notices with fifo := [waiting] } }

theorem witness_GrantFollowsTheRotation :
    (active.eligible .pwq = false ∧ active.eligible .drt = false ∧ active.eligible .notice = false) ∧
      granted (offering .pwq) .pwq ∧ granted (offering .drt) .drt ∧ granted (offering .notice) .notice ∧
      granted { offering .drt with reads := [] } .notice ∧
      granted { offering .drt with reads := [], notices := active.notices } .pwq := by
  unfold granted
  decide

theorem witness_GrantIssuesTheQueueHead :
    granted (offering .pwq) .pwq ∧ ∃ e q, (offering .pwq).pwq = e :: q :=
  ⟨by unfold granted; decide, _, _, rfl⟩

theorem witness_GrantIssuesTheOldestRead :
    (granted (offering .drt) .drt ∧
        (offering .drt).reads = [{ entry readP with counted := [0] }] ++ entry (read1 7 0x3000) :: [] ∧
        ((offering .drt).reads.map ReadEntry.request).Nodup ∧ (entry (read1 7 0x3000)).phase = .queued none ∧
        (entry (read1 7 0x3000)).counted = [] ∧
        (∀ x ∈ [{ entry readP with counted := [0] }], ¬ (x.phase = .queued none ∧ x.counted = [])) ∧
        (offering .drt).link.readA = .free) ∧
      (let s := { offering .drt with link := { next := .drt, readA := .orphaned } }
       granted s .drt ∧ s.link.readA ≠ .free) := by
  unfold granted
  decide

theorem witness_GrantWritesTheNotice :
    (granted (offering .notice) .notice ∧ (offering .notice).notices.fifo = [waiting] ∧ waiting.slot = none) ∧
      (let n := { waiting with slot := some 15 }
       let s := { noticing 16 15 4 [n] with link := { next := .notice } }
       granted s .notice ∧ s.notices.fifo = [n] ∧ n.slot = some 15) := by
  unfold granted
  decide

/-- A response ends a head's write in each way: OKAY, ERROR, and BUSY where the budget is reached. -/
theorem endsHead_each (s : State) (e : QueueEntry) (h : spent s e.attempts) :
    (∃ v, endsHead s e (.okayResponse 0 []) false v) ∧ (∃ v, endsHead s e (.errorResponse 0 .error) true v) ∧
      ∃ v, endsHead s e (.busyResponse 0) true v :=
  ⟨⟨_, .inl ⟨⟨_, rfl⟩, rfl, rfl⟩⟩, ⟨_, .inr (.inl ⟨⟨_, rfl⟩, rfl, rfl⟩)⟩, ⟨_, .inr (.inr ⟨rfl, h, rfl, rfl⟩)⟩⟩

/-- The power-on budget of 4096 attempts is spent at the BUSY answer to the 4096th, and not before (06
section 6.4). -/
theorem witness_spent : spent busy 4095 ∧ ¬ spent busy 4094 ∧ ¬ spent { busy with link := { budget := 0 } } 0xFFFF := by
  unfold spent
  decide

theorem witness_HeadLeavesAtItsResponse :
    (busy.link.writeSlot = .occupied .queueHead ∧ busy.pwq = passEntry :: busy.pwq.tail ∧
        passEntry.kind = .pass ∧ spent busy { passEntry with attempts := 4095 }.attempts) ∧
      (let s := inFlight busy (.fill 2 3)
       s.link.writeSlot = .occupied .queueHead ∧
        s.pwq = { address := 0x20010C00, words := [full 1], kind := .fill 2 3 } :: [] ∧
        2 ≤ (s.record 2 3).pending) ∧
      (let s := inFlight (withSector busy 3 { state := .filling, pending := 1 }) (.fill 2 3)
       s.link.writeSlot = .occupied .queueHead ∧ (s.record 2 3).pending = 1 ∧ (s.record 2 3).state = .filling) ∧
      (let s := inFlight (withSector busy 3 { state := .closing, pending := 2 }) (.close 2 3)
       s.link.writeSlot = .occupied .queueHead ∧ 2 ≤ (s.record 2 3).pending) ∧
      (let s := after (.purge 0) toPurge
       s.link.writeSlot = .occupied .queueHead ∧ s.pwq.map QueueEntry.kind =
          [.pass, .close 0 0, .release 0 2, .fill 0 1, .fill 0 1] ∧ (s.record 0 0).state = .purging) := by
  unfold spent
  decide +kernel

theorem witness_LastDepartureMovesTheSector :
    (let s := inFlight (withSector active 3 { state := .closing, pending := 1 }) (.close 2 3)
     s.link.writeSlot = .occupied .queueHead ∧ (s.record 2 3).pending = 1 ∧ (s.record 2 3).state = .closing ∧
      (s.cfg 2).modes.getLsbD 4 = true ∧ s.notices.enabled = true ∧ (quiet s).notices.enabled = false ∧
      (withNotices s 15).notices.fifo.length < 16 ∧ 16 ≤ (withNotices s 16).notices.fifo.length) ∧
    (let s := inFlight (withSector active 6 { state := .releasing, pending := 1 }) (.release 2 6)
     let u := inLife (withSector s 5 { state := .ready }) .stopping
     s.link.writeSlot = .occupied .queueHead ∧ (s.record 2 6).pending = 1 ∧ (s.record 2 6).state = .releasing ∧
      (s.ring 2).lifecycle = .active ∧ (u.record 2 6).pending = 1 ∧
      (u.ring 2).lifecycle = .stopping ∧ (5 : SectorNo) ≠ 6 ∧ (u.record 2 5).state ≠ .free) ∧
    ∀ k ∈ [EntryKind.close 2 3, .release 2 3],
      let s := inLife (inFlight (withSector (withSector active 3 { state := .purging, pending := 1 }) 4
        { state := .purging, pending := 2 }) k) .purging
      s.link.writeSlot = .occupied .queueHead ∧ (s.record 2 3).pending = 1 ∧ (s.record 2 3).state = .purging ∧
        (s.record 2 4).state ≠ .free := by decide

theorem witness_DrainedRingsTurnOff :
    (let s := inLife (inFlight (withSector active 6 { state := .releasing, pending := 1 }) (.release 2 6)) .stopping
     s.link.writeSlot = .occupied .queueHead ∧ (s.record 2 6).pending = 1 ∧
      (∀ j, j ≠ 6 → (s.record 2 j).state = .free) ∧ (s.record 2 6).state = .releasing ∧
      (s.ring 2).lifecycle = .stopping ∧ (s.ring 2).fillState = .idle ∧ s.notices.enabled = true ∧
      (withNotices s 15).notices.fifo.length < 16 ∧ 16 ≤ (withNotices s 16).notices.fifo.length) ∧
    ∀ k ∈ [EntryKind.close 2 3, .release 2 3],
      let s := inLife (inFlight (withSector active 3 { state := .purging, pending := 1 }) k) .purging
      s.link.writeSlot = .occupied .queueHead ∧ (s.record 2 3).pending = 1 ∧
        (∀ j, j ≠ 3 → (s.record 2 j).state = .free) ∧ (s.record 2 3).state = .purging ∧
        (s.ring 2).lifecycle = .purging ∧ s.notices.enabled = true ∧ (quiet s).notices.enabled = false := by
  decide

/-- A read in flight in slot A or B. -/
def fetching (b : Bool) (stale : Bool) : State :=
  { active with
    reads := [entry (read1 1 0x3000), { entry readP with phase := .issued stale }]
    link := if b then { readB := .occupied readP } else { readA := .occupied readP } }

theorem witness_FetchEndsAtItsResponse :
    (∀ stale ∈ [false, true], (fetching false stale).link.readA = .occupied readP ∧
        (fetching true stale).link.readB = .occupied readP) ∧
      (∀ b ∈ [false, true], ∀ stale ∈ [false, true],
        (fetching b stale).reads =
            [entry (read1 1 0x3000)] ++ { entry readP with phase := .issued stale } :: [] ∧
          ((fetching b stale).reads.map ReadEntry.request).Nodup) := by decide

theorem witness_NoticeLeavesAtItsResponse :
    writingNotice.link.writeSlot = .occupied .noticeHead ∧
      ∃ n q, writingNotice.notices.fifo = n :: q :=
  ⟨by decide, _, _, rfl⟩

theorem witness_BusyOwnersWaitOrGiveUp :
    (busy.link.writeSlot = .occupied .queueHead ∧ busy.pwq = passEntry :: busy.pwq.tail ∧
        ¬ spent busy passEntry.attempts ∧ ¬ retires busy busy.pwq ∧
        spent busy { passEntry with attempts := 4095 }.attempts) ∧
      (let s := inLife (inFlight (withSector active 3 { state := .purging, pending := 1 }) (.close 2 3)) .purging
       s.link.writeSlot = .occupied .queueHead ∧ ¬ spent s 0 ∧ (s.record 2 3).state = .purging) ∧
      (∀ b ∈ [false, true], ∀ stale ∈ [false, true],
        (fetching b stale).reads = [entry (read1 1 0x3000)] ++ { entry readP with phase := .issued stale } :: [] ∧
          ((fetching b stale).reads.map ReadEntry.request).Nodup ∧
          ¬ spent (fetching b stale) 0 ∧ spent (fetching b stale) 4095) ∧
      (writingNotice.link.writeSlot = .occupied .noticeHead ∧ (∃ n q, writingNotice.notices.fifo = n :: q) ∧
        ¬ spent writingNotice 0 ∧ spent writingNotice 4095) := by
  unfold spent
  exact ⟨⟨by decide, by decide, by decide, not_retires (by decide), by decide⟩, by decide, by decide, by decide,
    ⟨_, _, rfl⟩, by decide, by decide⟩

theorem witness_StrayResponsesAreDiscarded :
    (active.link.writeSlot = .free ∧ active.link.readA = .free ∧ active.link.readB = .free) ∧
      (after (.datapathReset 0) busy).link.writeSlot = .orphaned ∧
      (after (.datapathReset 0) busy).link.readA = .orphaned ∧
      (after (.datapathReset 0) (fetching true false)).link.readB = .orphaned := by decide

theorem witness_ExpiriesAreTakenWhenDue :
    ({ busy with headIssue := .backoff 0 } : State).headIssue = .backoff 0 ∧ busy.headIssue ≠ .backoff 0 ∧
      (noticing 5 5 3 [{ waiting with backoff := some 0 }]).notices.fifo = [{ waiting with backoff := some 0 }] ∧
      waiting.backoff ≠ some 0 ∧
      (let reads := [{ entry readP with phase := .queued (some 0) }, entry (read1 1 0x3000),
        { entry (read1 1 0x3040) with phase := .complete .budget 0 },
        { entry (read1 2 0x3040) with phase := .complete .budget 1 }]
       (reads.map ReadEntry.request).Nodup ∧ ∀ e ∈ reads, e.request ≠ readC) := by decide

theorem witness_FillTimerExpiryClosesTheMessage :
    ((timedOut.ring 2).fillTimer = some 0 ∧ (timedOut.ring 2).fillState = .opened ∧
        3 = (timedOut.ring 2).fillPointer ∧ (timedOut.record 2 3).pending = 0 ∧
        (timedOut.cfg 2).modes.getLsbD 4 = true ∧ timedOut.notices.enabled = true ∧
        (quiet timedOut).notices.enabled = false) ∧
      0 < ((withSector timedOut 3 { state := .filling, pending := 1, highWater := 8 }).record 2 3).pending ∧
      (active.ring 2).fillTimer ≠ some 0 ∧ (busy.ring 2).fillTimer ≠ some 0 ∧
      (let u := withRing active 2 { timedOut.ring 2 with fillState := .shadow, lifecycle := .stopping }
       let s := withSector u 3 { state := .ready }
       ((s.ring 2).fillTimer = some 0 ∧ (s.ring 2).fillState = .shadow ∧ (s.record 2 3).state ≠ .free) ∧
        ((u.ring 2).fillTimer = some 0 ∧ (u.ring 2).fillState = .shadow ∧ (u.ring 2).lifecycle = .stopping ∧
          ∀ j, (u.record 2 j).state = .free)) := by decide

theorem witness_TickCountsEveryTimer :
    busy.porstn = false ∧ (after .porstnAsserted busy).porstn = true := by decide

theorem witness_LrstnClosesAndFrees :
    busy.lrstn = false ∧ ({ busy with lrstn := true } : State).lrstn = true ∧
      (serves busy 2 ∧ (busy.ring 2).fillState = .opened) ∧ (busy.ring 0).fillState = .idle ∧
      (quiet busy).notices.enabled = false ∧
      (let s := withRing busy 2 { busy.ring 2 with fillState := .shadow }
       serves s 2 ∧ (s.ring 2).fillState = .shadow) ∧
      (let s := { shadow .stopping with sectors := State.reset.sectors }
       serves s 6 ∧ (s.ring 6).lifecycle = .stopping ∧ (s.ring 6).fillState = .shadow ∧
        ∀ j, (s.record 6 j).state = .free) := by
  unfold serves
  decide

/-- Ring 5 of the ENABLE example at the top of the address space. -/
def topRing : RingConfig := { base := 0xFFFF8000, sizeCode := 6, producer := 4, consumer := 11, modes := 0x05 }

theorem witness_EnableMakesTheRingActive :
    portTakes (enabling topRing) ∧ (5 : BitVec 4).toNat = (5 : RingNo).val ∧
      ((enabling topRing).ring 5).lifecycle = .off ∧
      validConfig ((enabling topRing).cfg 5) ∧ ¬ configOverlaps (enabling topRing) 5 := by
  refine ⟨by unfold portTakes; decide, by decide, by decide, ?_, ?_⟩
  · exact (Laws.ringConfig_valid_iff _).1 (by decide)
  · rw [← Laws.enableOverlaps_iff]
    decide

theorem witness_RefusedCommandsChangeTheResultAlone :
    portTakes active ∧ 8 ≤ (8 : BitVec 4).toNat ∧ (active.ring 2).lifecycle ≠ .off ∧
      ((active.ring 7).lifecycle = .off ∧ (active.ring 7).lifecycle ≠ .active ∧ ¬ serves active 7) ∧
      ¬ validConfig ((enabling { topRing with sectorCount := 3 }).cfg 5) ∧
      (let s := enabling { topRing with base := 0x20010000, sizeCode := 0 }
       validConfig (s.cfg 5) ∧ configOverlaps s 5) ∧
      active.notices.enabled = true ∧
      (let s := quiet { active with notices := { active.notices with base := 0x2000E080 } }
       s.notices.enabled = false ∧ s.link.writeSlot ≠ .occupied .noticeHead ∧ ¬ validNoticeConfig s.notices) ∧
      (let s := quiet { active with notices := { active.notices with base := 0x20011F00 } }
       s.notices.enabled = false ∧ validNoticeConfig s.notices ∧ noticeConfigOverlaps s) ∧
      0x00 ∉ commandCodes := by
  refine ⟨by unfold portTakes; decide, by decide, by decide, ⟨by decide, by decide, by unfold serves; decide⟩, ?_,
    ⟨?_, ?_⟩, by decide, ⟨by decide, by decide, ?_⟩, ⟨by decide, ?_, ?_⟩, by decide⟩
  · rw [← Laws.ringConfig_valid_iff]
    decide
  · exact (Laws.ringConfig_valid_iff _).1 (by decide)
  · exact (Laws.enableOverlaps_iff _ _).1 (by decide)
  · rw [← Laws.noticeUnit_valid_iff]
    decide
  · exact (Laws.noticeUnit_valid_iff _).1 (by decide)
  · exact (Laws.noticeOverlaps_iff _).1 (by decide)

theorem witness_StopMakesTheRingStopping :
    portTakes active ∧ (2 : BitVec 4).toNat = (2 : RingNo).val ∧
      ((busy.ring 2).lifecycle = .active ∧ (busy.ring 2).fillState ≠ .idle) ∧
      ((active.ring 2).lifecycle = .active ∧ (active.ring 2).fillState = .idle ∧
        ∀ j, (active.record 2 j).state = .free) ∧
      (quiet active).notices.enabled = false ∧ (withNotices active 15).notices.fifo.length < 16 ∧
      16 ≤ (withNotices active 16).notices.fifo.length := by
  unfold portTakes
  decide

theorem witness_PurgeMakesTheRingPurging :
    (portTakes toPurge ∧ serves toPurge 0 ∧ (toPurge.record 0 1).state ≠ .free ∧ 0 < (toPurge.record 0 1).pending) ∧
      (let s := { toPurge with pwq := toPurge.pwq.tail, headIssue := .backoff 3 }
       portTakes s ∧ serves s 0 ∧ s.pwq.map QueueEntry.kind = [.close 0 0, .release 0 2, .fill 0 1, .fill 0 1] ∧
        s.headIssue ≠ .inFlight ∧ (s.record 0 0).state ≠ .free ∧ 0 < (s.record 0 0).pending) ∧
      (let s := withSector active 5 { state := .ready }
       portTakes s ∧ serves s 2 ∧ (s.record 2 5).state ≠ .free ∧
        (∀ j, (s.record 2 j).state ≠ .free → (s.record 2 j).pending = 0) ∧ s.notices.enabled = true ∧
        (quiet s).notices.enabled = false) := by
  unfold portTakes serves
  decide

theorem witness_FlushAndClearKeepTheRest : portTakes busy := by
  unfold portTakes
  decide

theorem witness_NoticeCommandsSetTheEnable :
    portTakes active ∧ active.notices.enabled = true ∧
      ((quiet active).notices.enabled = false ∧ (quiet active).link.writeSlot ≠ .occupied .noticeHead ∧
        validNoticeConfig (quiet active).notices ∧ ¬ noticeConfigOverlaps (quiet active)) := by
  refine ⟨by unfold portTakes; decide, by decide, by decide, by decide, ?_, ?_⟩
  · exact (Laws.noticeUnit_valid_iff _).1 (by decide)
  · rw [← Laws.noticeOverlaps_iff]
    decide

theorem witness_DatapathResetKeepsConfiguration : portTakes busy := witness_FlushAndClearKeepTheRest

theorem witness_TransactionBytesMoveThePort :
    active.porstn = false ∧ (0x3B : BitVec 7) ≠ active.port.address ∧
      (after (.deviceAddress 0x3A false) active).port.transaction = .writeOffset ∧
      256 * (0x03 : Byte).toNat + (0xFF : Byte).toNat ≤ 0x03FF ∧
      0x03FF < 256 * (0x04 : Byte).toNat + (0x00 : Byte).toNat := by decide

/-- The row of a one-byte or longer field of the first block, by its place in the block. -/
theorem isRow_control {s : State} {x : WindowRow} (k : Fin 21) (h : (controlRows s)[k.val]? = some x) : isRow s x :=
  .inl (List.mem_of_getElem? h)

/-- The row of a field of ring r, by its place in the ring's block. -/
theorem isRow_ring {s : State} {x : WindowRow} (r : RingNo) (k : Fin 21) (h : (ringRows s r)[k.val]? = some x) :
    isRow s x :=
  .inr (.inr (.inr ⟨r, List.mem_of_getElem? h⟩))

/-- No row holds 0x000D, 0x008F or 0x03FF (12 section 12.4). -/
theorem no_row (s : State) : ∀ o ∈ [0x000D, 0x008F, 0x03FF], ∀ x, isRow s x → ¬ x.holds o := by
  intro o ho x hx hh
  have hf := Laws.fieldAt_row hx hh
  have hn : ∀ o ∈ [0x000D, 0x008F, 0x03FF], fieldAt o = none := by decide
  rw [hn o ho] at hf
  cases hf

theorem witness_RegisterWriteStagesAndStores :
    (∀ o : BitVec 16, (writing active o).port.transaction = .writeData ∧ portTakes (writing active o)) ∧
      (∀ s x, isRow s x → ¬ x.holds 0x03FF) ∧
      (let s := writing active 0x0000
       ∃ x, isRow s x ∧ x.holds 0x0000 ∧ x.access = .readOnly) ∧
      (let s := writing active 0x0283
       ∃ x, isRow s x ∧ x.holds 0x0283 ∧ x.isLocked s ∧ x.field = .ring 2 .base) ∧
      (let s := writing active 0x0020
       ∃ x, isRow s x ∧ x.holds 0x0020 ∧ x.isLocked s ∧ x.field = .noticeBase) ∧
      (let s := writing active 0x0018
       ∃ x, isRow s x ∧ x.holds 0x0018 ∧ x.field = .eventLow) ∧
      (let s := writing active 0x000C
       ∃ x, isRow s x ∧ x.holds 0x000C ∧ x.isOpen s ∧ x.bytes = 1 ∧ x.field = .backoff) ∧
      (let s := writing active 0x03CA
       ∃ x, isRow s x ∧ x.holds 0x03CA ∧ x.isOpen s ∧ x.bytes = 1 ∧ x.field = .ring 7 .modes) ∧
      (let s := after (.registerWrite 0xFF) (writing active 0x0008)
       s.port.transaction = .writeData ∧ s.port.offset = 0x0009 ∧ portTakes s ∧
        ∃ x bytes, isRow s x ∧ x.holds 0x0009 ∧ x.isOpen s ∧ stagedFor s x.field bytes ∧
          0x0009 - x.offset + 1 = x.bytes ∧ 1 < x.bytes ∧ x.field = .discardTime ∧ bytes[0] = some 0xFF) ∧
      (let s := writing (after (.registerWrite 0xFF) (writing active 0x0008)) 0x0200
       ∃ x bytes, isRow s x ∧ x.holds 0x0200 ∧ x.isOpen s ∧ stagedFor s x.field bytes ∧
          0x0200 - x.offset + 1 < x.bytes ∧ x.field = .ring 0 .base ∧ bytes[0] = none) := by
  refine ⟨fun _ => ⟨rfl, rfl, rfl⟩, fun s => no_row s 0x03FF (by decide),
    ⟨_, isRow_control 0 rfl, ⟨by decide, by decide⟩, rfl⟩,
    ⟨_, isRow_ring 2 0 rfl, ⟨by decide, by decide⟩, .inl ⟨2, rfl, by decide⟩, rfl⟩,
    ⟨_, isRow_control 14 rfl, ⟨by decide, by decide⟩, .inr ⟨rfl, by decide⟩, rfl⟩,
    ⟨_, isRow_control 10 rfl, ⟨by decide, by decide⟩, rfl⟩,
    ⟨_, isRow_control 7 rfl, ⟨by decide, by decide⟩, .inl rfl, rfl, rfl⟩,
    ⟨_, isRow_ring 7 6 rfl, ⟨by decide, by decide⟩, .inr (.inl ⟨7, rfl, by decide⟩), rfl, rfl⟩,
    ⟨by decide, by decide, ⟨by decide, by decide⟩, _, _, isRow_control 5 rfl, ⟨by decide, by decide⟩, .inl rfl,
      .inl rfl, rfl, by decide, rfl, rfl⟩,
    ⟨_, _, isRow_ring 0 0 rfl, ⟨by decide, by decide⟩, .inr (.inl ⟨0, rfl, by decide⟩),
      .inr ⟨rfl, fun y h => ?_⟩, by decide, rfl, rfl⟩⟩
  exact absurd (congrArg (Option.map Staging.field) h)
    (by decide : some Field.discardTime ≠ some (Field.ring 0 .base))

theorem witness_CommandByteTakesTheCommand :
    (let s := after (.registerWrite 0x02) (writing active 0x0010)
     portTakes s ∧ s.port.transaction = .writeData ∧ s.port.offset = 0x0011 ∧
      ∃ bytes, stagedFor s .command bytes ∧ bytes[0] = some 0x02) ∧
    (let s := writing active 0x0011
     portTakes s ∧ s.port.offset = 0x0011 ∧ stagedFor s .command (Vector.replicate 8 none) ∧
      (Vector.replicate 8 (none : Option Byte))[0] = none) ∧
    (0x1F ∈ commandCodes ∧ 0x55 ∉ commandCodes) :=
  ⟨⟨by unfold portTakes; decide, by decide, by decide, _, .inl rfl, rfl⟩,
    ⟨by unfold portTakes; decide, by decide, .inr ⟨rfl, fun _ h => nomatch h⟩, rfl⟩, by decide⟩

theorem witness_EventAndMaskWritesAct : portTakes busy := witness_FlushAndClearKeepTheRest

theorem witness_InspectionCopiesTheRecord : portTakes busy := witness_FlushAndClearKeepTheRest

theorem witness_BytesAreReadThroughTheCopy :
    (∀ o : BitVec 16, (sending active o).port.transaction = .reading ∧ (sending active o).porstn = false ∧
        (sending active o).port.outOfWindow = false) ∧
      portTakes (sending active 0) ∧
      (let s := { sending active 0x03FF with port := { (sending active 0x03FF).port with outOfWindow := true } }
       s.port.transaction = .reading ∧ s.port.outOfWindow = true) ∧
      (∀ s x, isRow s x → ¬ x.holds 0x03FF) ∧
      (let s := sending active 0x0000
       ∃ x, isRow s x ∧ x.holds 0x0000 ∧ x.bytes = 1 ∧ x.field = .status) ∧
      (let s := sending active 0x0004
       ∃ x, isRow s x ∧ x.holds 0x0004 ∧ 1 < x.bytes ∧ 0x0004 - x.offset = 0) ∧
      (let s := counting 0x0043 1 (some { field := .writesAccepted, value := 5 })
       ∃ x, isRow s x ∧ x.holds 0x0043 ∧ 1 < x.bytes ∧ 0x0043 - x.offset ≠ 0 ∧
        s.port.holding = some { field := x.field, value := 5 }) ∧
      (let s := sending active 0x0257
       ∃ x, isRow s x ∧ x.holds 0x0257 ∧ 1 < x.bytes ∧ 0x0257 - x.offset ≠ 0 ∧
        ∀ v, s.port.holding ≠ some { field := x.field, value := v }) := by
  exact ⟨fun _ => ⟨rfl, rfl, rfl⟩, by unfold portTakes; decide, by decide, fun s => no_row s 0x03FF (by decide),
    ⟨_, isRow_control 0 rfl, ⟨by decide, by decide⟩, rfl, rfl⟩,
    ⟨_, isRow_control 4 rfl, ⟨by decide, by decide⟩, by decide, rfl⟩,
    ⟨_, .inr (.inl (List.mem_of_getElem? (i := 0) rfl)), ⟨by decide, by decide⟩, by decide, by decide, rfl⟩,
    ⟨_, isRow_ring 1 8 rfl, ⟨by decide, by decide⟩, by decide, by decide, fun _ h => nomatch h⟩⟩

theorem witness_DeafPortTakesNoByte :
    (after .porstnAsserted active).porstn = true ∧
      (after (.offset 0x04 (some 0)) (after (.deviceAddress 0x3A false) active)).port.outOfWindow = true ∧
      active.port.transaction ≠ .writeData ∧ active.port.transaction ≠ .writeOffset ∧
      active.port.transaction ≠ .reading ∧ active.porstn = false := by decide

theorem witness_BoundedKept : Bounded busy ∧ ∃ t, step busy = .next t := ⟨busy_bounded, _, rfl⟩

theorem witness_ConsistentKept : Consistent busy ∧ ∃ t, step busy = .next t := ⟨busy_consistent, _, rfl⟩

theorem witness_SlotsAgreeKept : SlotsAgree busy ∧ ∃ t, step busy = .next t := ⟨busy_slotsAgree, _, rfl⟩

theorem witness_ReadsWaitKept : ReadsWait busy ∧ ∃ t, step busy = .next t := ⟨busy_readsWait, _, rfl⟩

theorem witness_IndicesAgreeKept : IndicesAgree writingNotice ∧ ∃ t, step writingNotice = .next t :=
  ⟨writingNotice_indicesAgree, _, rfl⟩

theorem witness_TaggedReadsReadyKept :
    Consistent busy ∧ TaggedReadsReady busy ∧ ∃ t, step busy = .next t :=
  ⟨busy_consistent, busy_taggedReadsReady, _, rfl⟩

theorem witness_WindowsApartKept : WindowsApart busy ∧ ∃ t, step busy = .next t := ⟨busy_windowsApart, _, rfl⟩

theorem witness_TimersRunKept : Consistent busy ∧ TimersRun busy ∧ ∃ t, step busy = .next t :=
  ⟨busy_consistent, busy_timersRun, _, rfl⟩

theorem witness_DrainedKept : Consistent busy ∧ Drained busy ∧ ∃ t, step busy = .next t :=
  ⟨busy_consistent, busy_drained, _, rfl⟩

theorem witness_QueueIsFirstInFirstOut : ∃ t, exec (.writeArrival writeB) busy = .next t := ⟨_, rfl⟩

theorem witness_OnlyTheirOwnCommandsChange :
    (Instr.tick.wellFormed = true ∧ exec .tick busy = .next (after .tick busy) ∧
        (after .tick busy).timestamp ≠ busy.timestamp) ∧
      (after (.registerWrite 0x01) (writing State.reset 0x0204)).config ≠ State.reset.config ∧
      (after (.registerWrite 0x01) (writing State.reset 0x0028)).notices.slotCode ≠
        State.reset.notices.slotCode ∧
      (after (.registerWrite 0x01) (writing busy 0x000C)).link.backoff ≠ busy.link.backoff ∧
      (after (.maskWrite .low 0x00) busy).events.masks ≠ busy.events.masks ∧
      (after (.porstnNegated 1) busy).port.address ≠ busy.port.address ∧
      (after .lrstnNegated { busy with lrstn := true }).lrstn ≠ true ∧
      (after .porstnAsserted busy).porstn ≠ busy.porstn ∧
      (after (.noticeDisable 0) busy).notices.enabled ≠ busy.notices.enabled ∧
      (busy.events.flags.getLsbD 0 = false ∧
        (after (.errorResponse 0 .error) busy).events.flags.getLsbD 0 = true) ∧
      (let s := { busy with events := { busy.events with flags := 0x100 } }
       s.events.flags.getLsbD 8 = true ∧
        (after (.eventRegisterWrite .high 0x01) s).events.flags.getLsbD 8 = false) :=
  ⟨⟨by decide, rfl, by decide⟩, by decide⟩

end Sys2Proof.Tests
end

section
/-! Producer writes in the terms of the statements: the checks that such a write passes (R32), the close trigger
that it is or is not (R37, R41), and what the fill state makes of it while sector F is not FREE (R44 to R46). -/

namespace Sys2Proof.Producer

open Sys2Proof.Machine Sys2Proof.Safety Sys2Proof.Laws

/-! ### The arrival of a write -/

/-- A judged write of a ring is taken by the ring's judgement (R25, R158). -/
theorem exec_writeOf_ring {s : State} {q : WriteRequest} {r : RingNo} {i : SectorNo} {w : Nat} {role : Role}
    (hw : writeOf s q (.ring r i w role)) : exec (.writeArrival q) s = .next (s.ringWrite r i w role q) := by
  obtain ⟨hline, haligned, hclass⟩ := hw
  show execWriteArrival q s = _
  simp [execWriteArrival, State.takeWrite, hline, haligned, hclass]

theorem ringWrite_producer {s : State} {r : RingNo} (h : serves s r) (i : SectorNo) (w : Nat) (q : WriteRequest) :
    s.ringWrite r i w .producer q = s.producerWrite r i w q := by
  have : (s.ring r).lifecycle ≠ .purging := by
    rcases h with h | h <;> simp [h]
  simp [State.ringWrite, this]

/-! ### The header checks (R32 steps 3 and 4) -/

theorem headerPartial_iff (c : RingConfig) (w : Nat) (q : WriteRequest) :
    headerPartial c w q = true ↔ c.modes &&& 3 = 0 ∧ w = 0 ∧ q.first.mask ≠ 0xFF := by
  simp only [headerPartial, RingConfig.isHeader, Bool.and_eq_true, decide_eq_true_eq, and_assoc]
  rfl

theorem headerTrigger_iff (c : RingConfig) (w : Nat) (q : WriteRequest) :
    headerTrigger c w q = true ↔
      c.modes &&& 3 = 0 ∧ w = 0 ∧ q.first.mask = 0xFF ∧ q.first.data.getLsbD 16 = true := by
  simp only [headerTrigger, RingConfig.isHeader, Bool.and_eq_true, decide_eq_true_eq, and_assoc]
  rfl

theorem capacity_of_header {c : RingConfig} (h : c.modes &&& 3 = 0) : c.capacity = c.sectorSize - 8 :=
  if_pos (decide_eq_true h)

theorem headerTooLong_iff (c : RingConfig) (w : Nat) (q : WriteRequest) :
    headerTooLong c w q = true ↔
      (c.modes &&& 3 = 0 ∧ w = 0 ∧ q.first.mask = 0xFF ∧ q.first.data.getLsbD 16 = true) ∧
        c.sectorSize - 8 < (q.first.data.setWidth 16).toNat := by
  rw [headerTooLong, Bool.and_eq_true, headerTrigger_iff, decide_eq_true_eq]
  refine and_congr_right fun ⟨hmode, _⟩ => ?_
  rw [capacity_of_header hmode]
  rfl

/-- The statements' header checks are those of the model. -/
theorem passesHeaderChecks_iff (c : RingConfig) (w : Nat) (q : WriteRequest) :
    passesHeaderChecks c w q ↔ ¬ headerPartial c w q = true ∧ ¬ headerTooLong c w q = true := by
  rw [headerPartial_iff, headerTooLong_iff, passesHeaderChecks, ← Nat.not_lt]
  tauto

theorem passesHeaderChecks_of_ordinary {c : RingConfig} {w : Nat} {q : WriteRequest} (h : ordinary c w q) :
    passesHeaderChecks c w q := by
  intro hmode hw
  rcases h with ⟨-, h⟩ | ⟨hmarker, -⟩
  · obtain ⟨hmask, hopen⟩ := h hw
    exact ⟨hmask, fun hcomplete => by rw [hopen] at hcomplete; cases hcomplete⟩
  · exact absurd (hmode.symm.trans hmarker) (by decide)

theorem passesHeaderChecks_of_completeHeader {c : RingConfig} {w : Nat} {q : WriteRequest}
    (h : completeHeader c w q) : passesHeaderChecks c w q := by
  obtain ⟨-, -, hmask, -, hlength⟩ := h
  exact fun _ _ => ⟨hmask, fun _ => hlength⟩

theorem passesHeaderChecks_of_markedWords {c : RingConfig} {q : WriteRequest} {before after : List WriteWord}
    {m : WriteWord} (h : markedWords c q before m after) (w : Nat) : passesHeaderChecks c w q := by
  obtain ⟨hmarker, -⟩ := h
  exact fun hmode _ => absurd (hmode.symm.trans hmarker) (by decide)

/-! ### The close trigger (R37, R41 to R43) -/

theorem isHeader_iff (c : RingConfig) : c.isHeader = true ↔ c.modes &&& 3 = 0 := decide_eq_true_iff

theorem isMarker_iff (c : RingConfig) : c.isMarker = true ↔ c.modes &&& 3 = 1 := decide_eq_true_iff

theorem not_isHeader_of_marker {c : RingConfig} (h : c.modes &&& 3 = 1) : ¬ c.isHeader = true := by
  rw [isHeader_iff, h]
  decide

theorem markerIndex_eq_none {marker : Word} {ws : List WriteWord}
    (h : ∀ x ∈ ws, ¬ (x.mask = 0xFF ∧ x.data = marker)) : markerIndex marker ws = none := by
  refine List.findIdx?_eq_none_iff.2 fun x hx => ?_
  rw [Bool.and_eq_false_eq_eq_false_or_eq_false, decide_eq_false_iff_not, decide_eq_false_iff_not]
  exact not_and_or.1 (h x hx)

/-- The first marker word of a write stands behind the words that are none (R41). -/
theorem markerIndex_append {marker : Word} {before : List WriteWord} {m : WriteWord}
    (hbefore : ∀ x ∈ before, ¬ (x.mask = 0xFF ∧ x.data = marker)) (hmask : m.mask = 0xFF)
    (hdata : m.data = marker) (after : List WriteWord) :
    markerIndex marker (before ++ m :: after) = some before.length := by
  have hnone := markerIndex_eq_none hbefore
  unfold markerIndex at hnone ⊢
  rw [List.findIdx?_append, hnone]
  simp [List.findIdx?_cons, hmask, hdata, fullMask]

/-- An ordinary write is no close trigger. -/
theorem closeTrigger_of_ordinary {c : RingConfig} {w : Nat} {q : WriteRequest} (h : ordinary c w q) :
    closeTrigger c w q = none := by
  rcases h with ⟨hmode, h⟩ | ⟨hmode, h⟩
  · have hno : ¬ headerTrigger c w q = true := by
      rw [headerTrigger_iff]
      rintro ⟨-, hw, -, hcomplete⟩
      rw [(h hw).2] at hcomplete
      cases hcomplete
    simp only [closeTrigger, (isHeader_iff c).2 hmode, hno, if_true]
    rfl
  · have hnone : markerIndex c.marker (wordsOf q) = none := markerIndex_eq_none h
    simp [closeTrigger, not_isHeader_of_marker hmode, hnone]

/-- The trigger of a complete header: the header's length, and the words as they are (R37, R40). -/
theorem closeTrigger_of_completeHeader {c : RingConfig} {w : Nat} {q : WriteRequest} (h : completeHeader c w q) :
    closeTrigger c w q = some {
      length := (q.first.data.setWidth 16).toNat
      endOffset := 8 * (q.rest.length + 1)
      words := q.first :: q.rest
      trailing := false } := by
  obtain ⟨hmode, rfl, hmask, hcomplete, -⟩ := h
  have htrigger := (headerTrigger_iff c 0 q).2 ⟨hmode, rfl, hmask, hcomplete⟩
  simp only [closeTrigger, (isHeader_iff c).2 hmode, htrigger, if_true, headerLength, endOffset, wordsOf,
    List.length_cons, Nat.zero_add]

/-- The trigger of a marker word: the length before it, and the words after it with no byte enabled (R41 to
R43). -/
theorem closeTrigger_of_markedWords {c : RingConfig} {q : WriteRequest} {before after : List WriteWord}
    {m : WriteWord} (h : markedWords c q before m after) (w : Nat) :
    closeTrigger c w q = some {
      length := 8 * (w + before.length)
      endOffset := 8 * (w + before.length + 1)
      words := before ++ m :: after.map clearMask
      trailing := !after.isEmpty } := by
  obtain ⟨hmode, hwords, hmask, hdata, hbefore⟩ := h
  have hq : wordsOf q = before ++ m :: after := hwords
  have hindex : markerIndex c.marker (wordsOf q) = some before.length := by
    rw [hq, markerIndex_append hbefore hmask hdata]
  simp only [closeTrigger, not_isHeader_of_marker hmode, (isMarker_iff c).2 hmode, hindex, if_true]
  rw [hq, List.take_length_add_append, List.drop_length_add_append]
  cases after <;> simp [endOffset, Nat.add_assoc]

/-- A statement's close trigger is one of the model. -/
theorem exists_closeTrigger {c : RingConfig} {w : Nat} {q : WriteRequest}
    (h : completeHeader c w q ∨ ∃ before m after, markedWords c q before m after) :
    ∃ t, closeTrigger c w q = some t := by
  obtain h | ⟨_, _, _, h⟩ := h
  · exact ⟨_, closeTrigger_of_completeHeader h⟩
  · exact ⟨_, closeTrigger_of_markedWords h w⟩

theorem passesHeaderChecks_of_trigger {c : RingConfig} {w : Nat} {q : WriteRequest}
    (h : completeHeader c w q ∨ ∃ before m after, markedWords c q before m after) :
    passesHeaderChecks c w q := by
  obtain h | ⟨_, _, _, h⟩ := h
  · exact passesHeaderChecks_of_completeHeader h
  · exact passesHeaderChecks_of_markedWords h w

/-! ### The fill state (R32 step 5) -/

/-- A producer write to sector F that passes the checks is taken by the fill state (R32). -/
theorem exec_producerWrite {s : State} {q : WriteRequest} {r : RingNo} {w : Nat} {i : SectorNo}
    (hw : writeOf s q (.ring r i w .producer)) (hi : i = (s.ring r).fillPointer) (hserves : serves s r)
    (hopen : (s.ring r).lifecycle = .active ∨ (s.ring r).fillState ≠ .idle)
    (hchecks : passesHeaderChecks (s.cfg r) w q) :
    exec (.writeArrival q) s = .next (s.takeProducerWrite r w q) := by
  obtain ⟨hpartial, hlong⟩ := (passesHeaderChecks_iff _ _ _).1 hchecks
  have hnotOff : ¬ ((s.ring r).lifecycle = .stopping ∧ (s.ring r).fillState = .idle) := by
    rintro ⟨hstop, hidle⟩
    rcases hopen with h | h
    · rw [hstop] at h
      cases h
    · exact h hidle
  rw [exec_writeOf_ring hw, ringWrite_producer hserves, State.producerWrite, if_neg (not_not.2 hi), if_neg hnotOff,
    if_neg hpartial, if_neg hlong]

/-- BACKPRESSURE holds the write off (R44). -/
theorem takeProducerWrite_backpressure {s : State} {r : RingNo} (hidle : (s.ring r).fillState = .idle)
    (hfull : (s.record r (s.ring r).fillPointer).state ≠ .free) (hpolicy : (s.cfg r).modes &&& 12 = 0) (w : Nat)
    (q : WriteRequest) : s.takeProducerWrite r w q = s.stallProducer r := by
  have hkeeps : ¬ (s.cfg r).discards = true := by
    simp only [RingConfig.discards, hpolicy]
    decide
  simp [State.takeProducerWrite, hidle, hfull, hkeeps]

/-- DISCARD begins a shadow, and the write is the first in it (R45). -/
theorem takeProducerWrite_discard {s : State} {r : RingNo} (hidle : (s.ring r).fillState = .idle)
    (hfull : (s.record r (s.ring r).fillPointer).state ≠ .free) (hpolicy : (s.cfg r).modes &&& 12 = 4) (w : Nat)
    (q : WriteRequest) : s.takeProducerWrite r w q = (s.beginShadow r).shadowWrite r w q := by
  have hdrops : (s.cfg r).discards = true := decide_eq_true hpolicy
  simp [State.takeProducerWrite, hidle, hfull, hdrops]

theorem exec_beginShadow {s : State} {q : WriteRequest} {r : RingNo} {w : Nat} {i : SectorNo}
    (hw : writeOf s q (.ring r i w .producer)) (hi : i = (s.ring r).fillPointer)
    (hactive : (s.ring r).lifecycle = .active) (hidle : (s.ring r).fillState = .idle)
    (hfull : (s.record r i).state ≠ .free) (hpolicy : (s.cfg r).modes &&& 12 = 4)
    (hchecks : passesHeaderChecks (s.cfg r) w q) :
    exec (.writeArrival q) s = .next ((s.beginShadow r).shadowWrite r w q) := by
  rw [exec_producerWrite hw hi (.inl hactive) (.inl hactive) hchecks,
    takeProducerWrite_discard hidle (hi ▸ hfull) hpolicy]

/-- A shadow takes every write that passes the checks (R46). -/
theorem exec_shadowWrite {s : State} {q : WriteRequest} {r : RingNo} {w : Nat} {i : SectorNo}
    (hw : writeOf s q (.ring r i w .producer)) (hi : i = (s.ring r).fillPointer) (hserves : serves s r)
    (hshadow : (s.ring r).fillState = .shadow) (hchecks : passesHeaderChecks (s.cfg r) w q) :
    exec (.writeArrival q) s = .next (s.shadowWrite r w q) := by
  have hbusy : (s.ring r).fillState ≠ .idle := by simp [hshadow]
  rw [exec_producerWrite hw hi hserves (.inr hbusy) hchecks]
  simp [State.takeProducerWrite, hshadow]

/-! ### Shadows (R45, R46) -/

theorem answerAccept_eq (s : State) : s.answerAccept = accepted s := rfl

theorem restartTimer_eq (x : RingState) (timeout : BitVec 16) :
    x.restartTimer timeout = { x with fillTimer := restarted timeout x.fillTimer } := by
  unfold RingState.restartTimer restarted
  split <;> rfl

/-- A write in a shadow that is no close trigger is dropped, and starts the fill timer again (R46, R48). -/
theorem shadowWrite_of_no_trigger {s : State} {r : RingNo} {w : Nat} {q : WriteRequest}
    (h : closeTrigger (s.cfg r) w q = none) :
    s.shadowWrite r w q = accepted (withRing s r { s.ring r with
      fillTimer := restarted (s.cfg r).fillTimeout (s.ring r).fillTimer }) := by
  simp only [State.shadowWrite, h, answerAccept_eq, State.restartRingTimer, setRing_eq, restartTimer_eq]

/-- A close trigger ends the shadow, and a drained STOPPING ring with it (R46, R151). -/
theorem shadowWrite_of_trigger {s : State} {r : RingNo} {w : Nat} {q : WriteRequest} {t : CloseTrigger}
    (h : closeTrigger (s.cfg r) w q = some t) :
    s.shadowWrite r w q = accepted (shadowEnded s r (closedRing s r (s.ring r))) := by
  simp only [State.shadowWrite, h, answerAccept_eq, advanceRing_eq]
  rw [shadowEnded_eq _ _ _ rfl]

theorem shadowEnded_of_active_or_full {s : State} {r : RingNo} {x : RingState}
    (h : x.lifecycle = .active ∨ ∃ j, (s.record r j).state ≠ .free) : shadowEnded s r x = withRing s r x := by
  refine if_neg ?_
  rintro ⟨hstop, hfree⟩
  rcases h with h | ⟨j, hj⟩
  · rw [hstop] at h
    cases h
  · exact hj (hfree j)

theorem shadowEnded_of_drained {s : State} {r : RingNo} {x : RingState} (hstop : x.lifecycle = .stopping)
    (hfree : ∀ j, (s.record r j).state = .free) : shadowEnded s r x = turnedOff (withRing s r x) r .ringOff :=
  if_pos ⟨hstop, hfree⟩

/-- The runtime record of a ring at the beginning of a shadow (R45). -/
def shadowRing (x : RingState) : RingState :=
  { x with
    fillState := .shadow
    nextSeq := x.nextSeq + 1
    lostCount := satSucc x.lostCount
    counters := { x.counters with lost := satSucc x.counters.lost } }

theorem beginShadow_eq (s : State) (r : RingNo) : s.beginShadow r = withRing s r (shadowRing (s.ring r)) := rfl

/-- A close within another record of the same fill pointer is a close of the ring (R29). -/
theorem closedRing_withRing {s : State} {r : RingNo} {x : RingState} (h : x.fillPointer = (s.ring r).fillPointer)
    (y : RingState) : closedRing (withRing s r x) r y = closedRing s r y := by
  simp [closedRing, nextSector, h]

/-- The write that begins a shadow, without a trigger (R45, R46). -/
theorem beginShadow_of_no_trigger {s : State} {r : RingNo} {w : Nat} {q : WriteRequest}
    (h : closeTrigger (s.cfg r) w q = none) :
    (s.beginShadow r).shadowWrite r w q = accepted (withRing s r { shadowRing (s.ring r) with
      fillTimer := restarted (s.cfg r).fillTimeout (s.ring r).fillTimer }) := by
  rw [beginShadow_eq, shadowWrite_of_no_trigger (s := withRing s r (shadowRing (s.ring r))) h, withRing_withRing]
  simp [shadowRing]

/-- The write that begins a shadow of an ACTIVE ring and ends it at once (R45, R46). -/
theorem beginShadow_of_trigger {s : State} {r : RingNo} {w : Nat} {q : WriteRequest} {t : CloseTrigger}
    (hactive : (s.ring r).lifecycle = .active) (h : closeTrigger (s.cfg r) w q = some t) :
    (s.beginShadow r).shadowWrite r w q = accepted (withRing s r (closedRing s r (shadowRing (s.ring r)))) := by
  have hring : (withRing s r (shadowRing (s.ring r))).ring r = shadowRing (s.ring r) := by simp
  have hstays : (closedRing s r (shadowRing (s.ring r))).lifecycle = .active := hactive
  rw [beginShadow_eq, shadowWrite_of_trigger (s := withRing s r (shadowRing (s.ring r))) h, hring,
    closedRing_withRing (x := shadowRing (s.ring r)) rfl, shadowEnded_of_active_or_full (.inl hstays),
    withRing_withRing]

/-! ### The obligation -/

/-- Settles O11: sector F is not FREE, so the full policy takes the write of an IDLE ring, and a shadow takes
every write until a close trigger ends it. -/
theorem fullSectorStallsOrShadows : Obligations.FullSectorStallsOrShadows := by
  intro s q r w i hw hi
  refine ⟨fun hactive hidle hfull hpolicy hchecks => ?stall,
    fun hactive hidle hfull hpolicy => ⟨fun hordinary => ?begins, fun htrigger => ?beginsAndEnds⟩,
    fun hshadow => ⟨fun hserves hordinary => ?continues,
      fun hserves htrigger => ⟨fun hstays => ?ends, fun hstop hfree => ?endsOff⟩⟩⟩
  case stall =>
    rw [exec_producerWrite hw hi (.inl hactive) (.inl hactive) hchecks,
      takeProducerWrite_backpressure hidle (hi ▸ hfull) hpolicy]
    rfl
  case begins =>
    rw [exec_beginShadow hw hi hactive hidle hfull hpolicy (passesHeaderChecks_of_ordinary hordinary),
      beginShadow_of_no_trigger (closeTrigger_of_ordinary hordinary)]
    rfl
  case beginsAndEnds =>
    obtain ⟨t, ht⟩ := exists_closeTrigger htrigger
    rw [exec_beginShadow hw hi hactive hidle hfull hpolicy (passesHeaderChecks_of_trigger htrigger),
      beginShadow_of_trigger hactive ht]
    rfl
  case continues =>
    rw [exec_shadowWrite hw hi hserves hshadow (passesHeaderChecks_of_ordinary hordinary),
      shadowWrite_of_no_trigger (closeTrigger_of_ordinary hordinary)]
  case ends =>
    obtain ⟨t, ht⟩ := exists_closeTrigger htrigger
    rw [exec_shadowWrite hw hi hserves hshadow (passesHeaderChecks_of_trigger htrigger),
      shadowWrite_of_trigger ht, shadowEnded_of_active_or_full (x := closedRing s r (s.ring r)) hstays]
  case endsOff =>
    obtain ⟨t, ht⟩ := exists_closeTrigger htrigger
    rw [exec_shadowWrite hw hi hserves hshadow (passesHeaderChecks_of_trigger htrigger),
      shadowWrite_of_trigger ht, shadowEnded_of_drained (x := closedRing s r (s.ring r)) hstop hfree]

end Sys2Proof.Producer
end

section
/-! Consumers, monitors and other initiators in the terms of the statements: what a refusal counts (R61, R163), the
release of a READY sector (R62 to R64), the answer of a read by its entry (R60, R106), and the gate of a read that
has none (R55 to R58). -/

namespace Sys2Proof.Consumer

open Sys2Proof.Machine Sys2Proof.Safety Sys2Proof.Laws Sys2Proof.Producer

/-! ### Refusals (R163, R166) -/

theorem answerFault_eq (s : State) (f : FaultReason) : s.answerFault f = faulted s f := rfl

theorem answerRingFault_consumer (s : State) (r : RingNo) (f : FaultReason) :
    s.answerRingFault r .consumer f = faulted (consumerFaulted s r) f := rfl

/-- A monitor's refusal is counted as the consumer's is (R61). -/
theorem answerRingFault_monitor (s : State) (r : RingNo) (f : FaultReason) :
    s.answerRingFault r .monitor f = faulted (consumerFaulted s r) f := rfl

theorem setRing_ring_self (s : State) (r : RingNo) : s.setRing r (s.ring r) = s := by
  simp [State.setRing, State.ring]

/-- No counter of the ring takes the refusal of another initiator (R163). -/
theorem answerRingFault_other (s : State) (r : RingNo) (f : FaultReason) :
    s.answerRingFault r .other f = faulted s f := by
  rw [answerRingFault_def, RingState.countFault, setRing_ring_self, answerFault_eq]

theorem not_purging_of_serves {s : State} {r : RingNo} (h : serves s r) : (s.ring r).lifecycle ≠ .purging := by
  rcases h with h | h <;> simp [h]

/-! ### Writes by role (R25) -/

theorem isRelease_iff (w : Nat) (q : WriteRequest) :
    isRelease w q = true ↔ w = 0 ∧ q.rest = [] ∧ q.first.mask = 0xFF := by
  simp only [isRelease, Bool.and_eq_true, decide_eq_true_eq, List.isEmpty_iff, and_assoc]
  rfl

/-- A consumer write of the shape of a release is judged by the sector's state (R62, R63). -/
theorem ringWrite_release {s : State} {r : RingNo} (h : serves s r) {w : Nat} {q : WriteRequest}
    (hshape : w = 0 ∧ q.rest = [] ∧ q.first.mask = 0xFF) (i : SectorNo) :
    s.ringWrite r i w .consumer q = s.release r i q := by
  simp only [State.ringWrite, if_neg (not_purging_of_serves h), if_pos ((isRelease_iff w q).2 hshape)]

/-- A consumer write of another shape is refused (R25, R66). -/
theorem ringWrite_consumer_misshapen {s : State} {r : RingNo} (h : serves s r) {w : Nat} {q : WriteRequest}
    (hshape : ¬ (w = 0 ∧ q.rest = [] ∧ q.first.mask = 0xFF)) (i : SectorNo) :
    s.ringWrite r i w .consumer q = faulted (consumerFaulted s r) .role := by
  simp only [State.ringWrite, if_neg (not_purging_of_serves h), if_neg (mt (isRelease_iff w q).1 hshape),
    answerRingFault_consumer]

theorem ringWrite_monitor {s : State} {r : RingNo} (h : serves s r) (i : SectorNo) (w : Nat) (q : WriteRequest) :
    s.ringWrite r i w .monitor q = faulted (consumerFaulted s r) .role := by
  simp only [State.ringWrite, if_neg (not_purging_of_serves h), answerRingFault_monitor]

theorem ringWrite_other {s : State} {r : RingNo} (h : serves s r) (i : SectorNo) (w : Nat) (q : WriteRequest) :
    s.ringWrite r i w .other q = faulted s .role := by
  simp only [State.ringWrite, if_neg (not_purging_of_serves h), answerRingFault_other]

/-! ### Releases (R62 to R64, R66) -/

/-- The reads of a sector are those whose address lies between its first byte and its last (R64). -/
theorem readInSector_eq {s : State} {r : RingNo} {d : DecodeEntry} (hd : s.window r = some d) (i : SectorNo) :
    s.readInSector r i = fun e => decide (d.base.toNat + i.val * d.sectorSize ≤ e.request.address.toNat ∧
      e.request.address.toNat < d.base.toNat + (i.val + 1) * d.sectorSize) := by
  funext e
  simp only [State.readInSector, hd, DecodeEntry.inSector, Bool.decide_and]

/-- The answer to a write and its joining of the queue touch different fields. -/
theorem answerAccept_enqueue (s : State) (e : QueueEntry) : (s.enqueue e).answerAccept = (accepted s).enqueue e := rfl

/-- A release of a READY sector, with room in the queue (R63, R64). -/
theorem release_of_ready {s : State} {r : RingNo} {i : SectorNo} (hready : (s.record r i).state = .ready)
    (hroom : s.pwq.length < 32) (q : WriteRequest) :
    s.release r i q = (accepted (freed
      (withRecord s r i { s.record r i with state := .releasing, pending := (s.record r i).pending + 1 })
      (s.readInSector r i))).enqueue { address := q.address, words := wordsOf q, kind := .release r i } := by
  have hspace : s.hasRoom = true := decide_eq_true hroom
  simp only [State.release, if_pos hready, if_pos hspace, freeReads_eq, setRecord_eq]
  exact answerAccept_enqueue _ _

/-- A release of a sector that is not READY is refused (R66). -/
theorem release_of_not_ready {s : State} {r : RingNo} {i : SectorNo} (h : (s.record r i).state ≠ .ready)
    (q : WriteRequest) : s.release r i q = faulted (consumerFaulted s r) .releaseState := by
  rw [State.release, if_neg h, answerRingFault_consumer]

/-- Settles O13: the write has the shape of a release, so the READY sector is released into a queue with room. -/
theorem releaseOfReadySector : Obligations.ReleaseOfReadySector := by
  intro s q r i d hw hserves hd hrest hmask hready hroom
  have hwords : wordsOf q = [q.first] := by rw [wordsOf, hrest]
  rw [exec_writeOf_ring hw, ringWrite_release hserves ⟨rfl, hrest, hmask⟩, release_of_ready hready hroom,
    readInSector_eq hd, hwords]

/-! ### The arrival of a read -/

/-- A judged read of a ring is taken by the ring's judgement (R25, R55, R158). -/
theorem exec_readOf_ring {s : State} {k : ReadRequest} {r : RingNo} {i : SectorNo} {w : Nat} {role : Role}
    (hk : readOf s k (.ring r i w role)) : exec (.readArrival k) s = .next (s.ringRead r i role k) := by
  obtain ⟨hline, haligned, hclass⟩ := hk
  show execReadArrival k s = _
  simp [execReadArrival, State.takeRead, hline, haligned, hclass]

/-- A judged read of no ring reaches the table, and its repeat counts in no ring (R95, R106). -/
theorem exec_matchRead_of_outside {s : State} {k : ReadRequest} {c : RequestClass} (hk : readOf s k c)
    (hc : c = .pass ∨ c = .noticeReturn) :
    exec (.readArrival k) s = .next (s.matchRead k none (s.createRead k none)) := by
  obtain ⟨hline, haligned, hclass⟩ := hk
  show execReadArrival k s = _
  rcases hc with rfl | rfl <;> simp [execReadArrival, State.takeRead, hline, haligned, hclass]

theorem ringRead_producer {s : State} {r : RingNo} (h : serves s r) (i : SectorNo) (k : ReadRequest) :
    s.ringRead r i .producer k = s.matchRead k (some (r, .producer)) (s.createRead k none) := by
  simp only [State.ringRead, if_neg (not_purging_of_serves h)]

/-- A consumer or monitor read meets its own entry before the gate (R55, R95). -/
theorem ringRead_gated {s : State} {r : RingNo} {role : Role} (h : serves s r)
    (hrole : role = .consumer ∨ role = .monitor) (i : SectorNo) (k : ReadRequest) :
    s.ringRead r i role k = s.matchRead k (some (r, role)) (s.gate r i role k) := by
  rcases hrole with rfl | rfl <;> simp only [State.ringRead, if_neg (not_purging_of_serves h)]

theorem ringRead_other {s : State} {r : RingNo} (h : serves s r) (i : SectorNo) (k : ReadRequest) :
    s.ringRead r i .other k = faulted s .role := by
  simp only [State.ringRead, if_neg (not_purging_of_serves h), answerRingFault_other]

/-- Settles O14: a ring that serves requests judges a write by its role and shape, a release by the sector's state,
and a read by its role. -/
theorem releaseAndRoleFaults : Obligations.ReleaseAndRoleFaults := by
  refine ⟨fun s q r w i hserves => ⟨fun hw => ⟨fun hshape hstate => ?notReady, fun hshape => ?misshapen⟩,
    fun hw => ?monitor, fun hw => ?other⟩, fun s k r w i hserves hk => ?read⟩
  case notReady => rw [exec_writeOf_ring hw, ringWrite_release hserves hshape, release_of_not_ready hstate]
  case misshapen => rw [exec_writeOf_ring hw, ringWrite_consumer_misshapen hserves hshape]
  case monitor => rw [exec_writeOf_ring hw, ringWrite_monitor hserves]
  case other => rw [exec_writeOf_ring hw, ringWrite_other hserves]
  case read => rw [exec_readOf_ring hk, ringRead_other hserves]

/-! ### The repeat of a read (R60, R95, R106) -/

/-- The state in which the fault of a repeat has been counted in the ring and role that it is counted in, if any
(R106, R163). -/
def countedIn (s : State) : Option (RingNo × Role) → State
  | none => s
  | some (r, role) => s.setRing r ((s.ring r).countFault role)

/-- The fault of a collected read: its entry is freed, and the fault counted (R60, R106). -/
theorem answerReadFault_removeRead (s : State) (k : ReadRequest) (inRing : Option (RingNo × Role)) (f : FaultReason) :
    (s.removeRead k).answerReadFault inRing f =
      faulted { countedIn s inRing with reads := s.reads.filter fun x => decide (x.request ≠ k) } f := by
  cases inRing <;> rfl

/-- A ring's read by another role than OTHER is matched against the table first, and a fault of its entry is counted
in the ring by that role (R95, R106). -/
theorem exec_matchRead_of_ring {s : State} {k : ReadRequest} {r : RingNo} {i : SectorNo} {w : Nat} {role : Role}
    (hk : readOf s k (.ring r i w role)) (hserves : serves s r) (hrole : role ≠ .other) :
    ∃ unmatched, exec (.readArrival k) s = .next (s.matchRead k (some (r, role)) unmatched) := by
  rw [exec_readOf_ring hk]
  cases role with
  | producer => exact ⟨_, congrArg _ (ringRead_producer hserves i k)⟩
  | consumer => exact ⟨_, congrArg _ (ringRead_gated hserves (.inl rfl) i k)⟩
  | monitor => exact ⟨_, congrArg _ (ringRead_gated hserves (.inr rfl) i k)⟩
  | other => exact absurd rfl hrole

section
variable {s : State} {k : ReadRequest} {e : ReadEntry} (inRing : Option (RingNo × Role)) (unmatched : State)
  (hfind : s.findRead k = some e)
include hfind

theorem matchRead_of_queued {b : Option Nat} (h : e.phase = .queued b) :
    s.matchRead k inRing unmatched = s.respond .retry := by
  simp only [State.matchRead, hfind, h]

theorem matchRead_of_issued {b : Bool} (h : e.phase = .issued b) :
    s.matchRead k inRing unmatched = s.respond .retry := by
  simp only [State.matchRead, hfind, h]

theorem matchRead_of_complete {x : ReadResult} {n : Nat} (h : e.phase = .complete x n) :
    s.matchRead k inRing unmatched = s.collect k inRing x := by
  simp only [State.matchRead, hfind, h]

end

theorem matchRead_of_no_entry {s : State} {k : ReadRequest} (h : ∀ e ∈ s.reads, e.request ≠ k)
    (inRing : Option (RingNo × Role)) (unmatched : State) : s.matchRead k inRing unmatched = unmatched := by
  simp only [State.matchRead, findRead_none.2 h]

/-- Settles O17: the repeat reaches the table by its class and role, where its own entry is found and answers it by
its phase. -/
theorem collectionFreesTheEntry : Obligations.CollectionFreesTheEntry := by
  intro s t k c e hk hmem hrequest hdistinct hclass
  have hfind : s.findRead k = some e := hrequest ▸ findRead_of_mem hdistinct hmem
  obtain ⟨inRing, unmatched, hexec, rfl⟩ : ∃ inRing unmatched,
      exec (.readArrival k) s = .next (s.matchRead k inRing unmatched) ∧ t = countedIn s inRing := by
    cases c with
    | pass => exact ⟨none, _, exec_matchRead_of_outside hk (.inl rfl), hclass⟩
    | noticeReturn => exact ⟨none, _, exec_matchRead_of_outside hk (.inr rfl), hclass⟩
    | ring r i w role =>
      have htaken : serves s r ∧ role ≠ .other ∧ t = countedIn s (some (r, role)) := by
        cases role with
        | producer | consumer | monitor => exact ⟨hclass.1, nofun, hclass.2⟩
        | other => exact hclass.elim
      obtain ⟨hserves, hrole, ht⟩ := htaken
      obtain ⟨unmatched, hexec⟩ := exec_matchRead_of_ring hk hserves hrole
      exact ⟨_, unmatched, hexec, ht⟩
  rw [hexec]
  refine ⟨fun b h => ?queued, fun b h => ?issued, fun ws n h => ?data, fun n h => ?memError, fun n h => ?budget⟩
  case queued => rw [matchRead_of_queued _ _ hfind h, State.respond]
  case issued => rw [matchRead_of_issued _ _ hfind h, State.respond]
  case data =>
    rw [matchRead_of_complete _ _ hfind h]
    rfl
  case memError => rw [matchRead_of_complete _ _ hfind h, State.collect, answerReadFault_removeRead]
  case budget => rw [matchRead_of_complete _ _ hfind h, State.collect, answerReadFault_removeRead]

/-! ### The gate (R55 to R58) -/

theorem readPlace_iff (s : State) (k : ReadRequest) :
    s.readPlace k = true ↔
      s.reads.length < 8 ∧ s.reads.countP (fun e => decide (e.request.initiator = k.initiator)) < 2 := by
  simp only [State.readPlace, Bool.and_eq_true, decide_eq_true_eq]

/-- A read that finds a place becomes a QUEUED entry behind the queued writes of its line (R95, R96). -/
theorem createRead_of_place {s : State} {k : ReadRequest} (hroom : s.reads.length < 8)
    (hshare : s.reads.countP (fun e => decide (e.request.initiator = k.initiator)) < 2)
    (tag : Option (RingNo × SectorNo)) :
    s.createRead k tag = { s with
      hostResponse := some .retry
      reads := s.reads ++ [{
        request := k
        tag := tag
        phase := .queued none
        attempts := 0
        counted := lineHits (lineOf k.address) s.pwq }] } :=
  if_pos ((readPlace_iff s k).2 ⟨hroom, hshare⟩)

/-- A read that finds no place is answered RETRY and leaves no entry (R95). -/
theorem createRead_of_no_place {s : State} {k : ReadRequest}
    (h : 8 ≤ s.reads.length ∨ 2 ≤ s.reads.countP (fun e => decide (e.request.initiator = k.initiator)))
    (tag : Option (RingNo × SectorNo)) : s.createRead k tag = { s with hostResponse := some .retry } := by
  refine if_neg fun hplace => ?_
  obtain ⟨hroom, hshare⟩ := (readPlace_iff s k).1 hplace
  omega

/-- The first arrival of a consumer or monitor read meets the gate (R55). -/
theorem exec_gate {s : State} {k : ReadRequest} {r : RingNo} {w : Nat} {i : SectorNo} {role : Role}
    (hk : readOf s k (.ring r i w role)) (hrole : role = .consumer ∨ role = .monitor) (hserves : serves s r)
    (hnone : ∀ e ∈ s.reads, e.request ≠ k) : exec (.readArrival k) s = .next (s.gate r i role k) := by
  rw [exec_readOf_ring hk, ringRead_gated hserves hrole, matchRead_of_no_entry hnone]

/-- A FREE, FILLING or RELEASING sector holds no message to read (R56). -/
theorem gate_notReady {s : State} {r : RingNo} {i : SectorNo} {role : Role}
    (hrole : role = .consumer ∨ role = .monitor)
    (h : (s.record r i).state = .free ∨ (s.record r i).state = .filling ∨ (s.record r i).state = .releasing)
    (k : ReadRequest) : s.gate r i role k = faulted (consumerFaulted s r) .notReady := by
  have hfault : s.gate r i role k = s.answerRingFault r role .notReady := by
    rcases h with h | h | h <;> simp only [State.gate, h]
  rw [hfault]
  rcases hrole with rfl | rfl
  · exact answerRingFault_consumer s r .notReady
  · exact answerRingFault_monitor s r .notReady

/-- A closed message whose writes are still queued is to be asked for again (R57). -/
theorem gate_closing {s : State} {r : RingNo} {i : SectorNo} (h : (s.record r i).state = .closing) (role : Role)
    (k : ReadRequest) : s.gate r i role k = { s with hostResponse := some .retry } := by
  simp only [State.gate, h, State.respond]

/-- A READY sector lets the read to the table, tagged with the sector (R58). -/
theorem gate_ready {s : State} {r : RingNo} {i : SectorNo} (h : (s.record r i).state = .ready) (role : Role)
    (k : ReadRequest) : s.gate r i role k = s.createRead k (some (r, i)) := by
  simp only [State.gate, h]

/-- Settles O18: without an entry the read meets the gate, which answers by the sector's state, and in READY by the
place that the table has. -/
theorem gateAnswersBySectorState : Obligations.GateAnswersBySectorState := by
  intro s k r w i role hk hrole hserves hnone
  rw [exec_gate hk hrole hserves hnone]
  refine ⟨fun h => ?notReady, fun h => ?closing, fun h hroom hshare => ?place, fun h hfull => ?noPlace⟩
  case notReady => rw [gate_notReady hrole h]
  case closing => rw [gate_closing h]
  case place => rw [gate_ready h, createRead_of_place hroom hshare]
  case noPlace => rw [gate_ready h, createRead_of_no_place hfull]

end Sys2Proof.Consumer
end

section
/-! The Posted Write Queue's acceptance of a write for the host link in the terms of the statements: the joining of a
write that finds room (R77), and the snoop of the return index that such a write carries (R81, R82, R140). -/

namespace Sys2Proof.PostedWrites

open Sys2Proof.Machine Sys2Proof.Safety Sys2Proof.Consumer

/-! ### The arrival of a return write -/

/-- A judged NOTICE-RETURN write is carried and snooped (R81, R158). -/
theorem exec_writeOf_noticeReturn {s : State} {q : WriteRequest} (hw : writeOf s q .noticeReturn) :
    exec (.writeArrival q) s = .next (s.returnWrite q) := by
  obtain ⟨hline, haligned, hclass⟩ := hw
  show execWriteArrival q s = _
  simp [execWriteArrival, State.takeWrite, hline, haligned, hclass]

/-- A write of no ring joins a queue with room as a PASS entry (R77). -/
theorem passWrite_of_room {s : State} (hroom : s.pwq.length < 32) (q : WriteRequest) :
    s.passWrite q =
      (accepted s).enqueue { address := q.address, words := q.first :: q.rest, kind := .pass, attempts := 0 } := by
  have hspace : s.hasRoom = true := decide_eq_true hroom
  rw [State.passWrite, if_pos hspace]
  exact answerAccept_enqueue _ _

/-! ### The snoop (R81, R82, R140) -/

/-- The write's word at the return index address carries a count where its mask is full, and none otherwise (R81). -/
theorem returnedWord_eq {q : WriteRequest} {word : Addr} {k : Nat} {x : WriteWord}
    (hx : (q.first :: q.rest)[k]? = some x) (hword : q.address.toNat + 8 * k = word.toNat) :
    returnedWord q word = if x.mask = 0xFF then some x.data else none := by
  have hindex : (word.toNat - q.address.toNat) / 8 = k := by omega
  rw [returnedWord, hindex, wordsOf, hx]
  rfl

/-- A count that a write with room carries is snooped at its acceptance (R81). -/
theorem returnWrite_of_returned {s : State} {q : WriteRequest} {v : Word} (hroom : s.pwq.length < 32)
    (h : returnedWord q s.notices.returnAddress = some v) : s.returnWrite q = (s.passWrite q).snoop v := by
  have hspace : s.hasRoom = true := decide_eq_true hroom
  simp only [State.returnWrite, if_pos hspace, h]

/-- A write with room that carries no count is a PASS write alone (R81, R82). -/
theorem returnWrite_of_not_returned {s : State} {q : WriteRequest} (hroom : s.pwq.length < 32)
    (h : returnedWord q s.notices.returnAddress = none) : s.returnWrite q = s.passWrite q := by
  have hspace : s.hasRoom = true := decide_eq_true hroom
  simp only [State.returnWrite, if_pos hspace, h]

/-- A count no further from R than Wd is moves R to it (R81). -/
theorem snoop_of_valid {s : State} {v : Word}
    (h : (v.setWidth 16 - s.notices.r).toNat ≤ (s.notices.wd - s.notices.r).toNat) :
    s.snoop v = { s with notices := { s.notices with r := v.setWidth 16 } } :=
  if_pos h

/-- A count beyond Wd leaves R as it was, and sets NOTICE_INDEX_BAD (R81, R140). -/
theorem snoop_of_invalid {s : State} {v : Word}
    (h : (s.notices.wd - s.notices.r).toNat < (v.setWidth 16 - s.notices.r).toNat) :
    s.snoop v = { s with events := { s.events with flags := s.events.flags ||| 0x20 } } :=
  if_neg (Nat.not_le.2 h)

/-- The snoop and the joining of the queue touch different fields. -/
theorem snoop_enqueue (s : State) (e : QueueEntry) (v : Word) : (s.enqueue e).snoop v = (s.snoop v).enqueue e := by
  rcases Nat.lt_or_ge (s.notices.wd - s.notices.r).toNat (v.setWidth 16 - s.notices.r).toNat with h | h
  · rw [snoop_of_invalid h, snoop_of_invalid (s := s.enqueue e) h]
    rfl
  · rw [snoop_of_valid h, snoop_of_valid (s := s.enqueue e) h]
    rfl

/-- Settles O6: the write joins as a PASS write, and its word at the return index address is snooped by its mask and
its distance from R. -/
theorem returnWriteIsSnooped : Obligations.ReturnWriteIsSnooped := by
  rintro s q k x e v rfl hw hroom hx hword rfl
  have hreturned := returnedWord_eq hx hword
  rw [exec_writeOf_noticeReturn hw]
  refine ⟨fun hmask hvalid => ?moves, fun hmask hinvalid => ?bad, fun hmask => ?partialMask⟩
  case moves =>
    rw [if_pos hmask] at hreturned
    rw [returnWrite_of_returned hroom hreturned, passWrite_of_room hroom, snoop_enqueue,
      snoop_of_valid (s := accepted s) hvalid]
    rfl
  case bad =>
    rw [if_pos hmask] at hreturned
    rw [returnWrite_of_returned hroom hreturned, passWrite_of_room hroom, snoop_enqueue,
      snoop_of_invalid (s := accepted s) hinvalid]
    rfl
  case partialMask =>
    rw [if_neg hmask] at hreturned
    rw [returnWrite_of_not_returned hroom hreturned, passWrite_of_room hroom]

end Sys2Proof.PostedWrites
end

section
/-! Responses to no owner in the terms of the statements: the tags that name a FREE slot or none, the tags that name
an ORPHANED slot, and what a response of any kind does at either (R113, R126, R185). -/

namespace Sys2Proof.StrayResponses

open Sys2Proof.Machine Sys2Proof.Laws

/-! ### What a tag names (R112, R185) -/

theorem readHolder_eq_discarded_iff (x : ReadSlot) : x.holder = .discarded ↔ x = .free := by
  cases x <;> simp [ReadSlot.holder]

theorem readHolder_eq_orphaned_iff (x : ReadSlot) : x.holder = .orphaned ↔ x = .orphaned := by
  cases x <;> simp [ReadSlot.holder]

/-- A response finds nothing exactly where its tag names a FREE slot or no slot (R113, R185). -/
theorem holder_eq_discarded_iff (s : State) (tag : BitVec 2) :
    s.holder tag = .discarded ↔
      (tag = 0 ∧ s.link.writeSlot = .free) ∨ (tag = 1 ∧ s.link.readA = .free) ∨
        (tag = 2 ∧ s.link.readB = .free) ∨ tag = 3 := by
  rcases holder_cases s tag with ⟨rfl, hwrite⟩ | ⟨rfl, hA⟩ | ⟨rfl, hB⟩ | ⟨rfl, hnone⟩
  · rcases hwrite with ⟨hslot, hholder⟩ | ⟨hslot, hholder⟩ | ⟨hslot, hholder⟩ | ⟨hslot, hholder⟩ <;>
      (rw [hholder]; simp [hslot])
  · rw [hA, readHolder_eq_discarded_iff]
    simp
  · rw [hB, readHolder_eq_discarded_iff]
    simp
  · rw [hnone]
    simp

/-- A response finds an ORPHANED slot exactly where its tag names one (R126). -/
theorem holder_eq_orphaned_iff (s : State) (tag : BitVec 2) :
    s.holder tag = .orphaned ↔
      (tag = 0 ∧ s.link.writeSlot = .orphaned) ∨ (tag = 1 ∧ s.link.readA = .orphaned) ∨
        (tag = 2 ∧ s.link.readB = .orphaned) := by
  rcases holder_cases s tag with ⟨rfl, hwrite⟩ | ⟨rfl, hA⟩ | ⟨rfl, hB⟩ | ⟨rfl, hnone⟩
  · rcases hwrite with ⟨hslot, hholder⟩ | ⟨hslot, hholder⟩ | ⟨hslot, hholder⟩ | ⟨hslot, hholder⟩ <;>
      (rw [hholder]; simp [hslot])
  · rw [hA, readHolder_eq_orphaned_iff]
    simp
  · rw [hB, readHolder_eq_orphaned_iff]
    simp
  · rw [hnone]
    simp

/-! ### The slot alone becomes FREE (R114) -/

theorem freeSlot_write (s : State) :
    s.freeSlot 0 = { s with link := { s.link with writeSlot := .free } } := rfl

theorem freeSlot_readA (s : State) : s.freeSlot 1 = { s with link := { s.link with readA := .free } } := rfl

theorem freeSlot_readB (s : State) : s.freeSlot 2 = { s with link := { s.link with readB := .free } } := rfl

/-! ### The obligation -/

/-- A response that finds nothing is discarded, and one that finds an ORPHANED slot frees the slot, whatever the kind
of the response (R126). -/
theorem exec_response_of_no_owner {s : State} {c : Instr} {tag : BitVec 2}
    (hc : (∃ data, c = .okayResponse tag data) ∨ c = .busyResponse tag ∨ ∃ kind, c = .errorResponse tag kind) :
    (s.holder tag = .discarded → exec c s = .next s) ∧
      (s.holder tag = .orphaned → exec c s = .next (s.freeSlot tag)) := by
  rcases hc with ⟨data, rfl⟩ | rfl | ⟨kind, rfl⟩
  case inl =>
    show (_ → execOkayResponse tag data s = _) ∧ (_ → execOkayResponse tag data s = _)
    constructor <;> intro hholder <;> simp only [execOkayResponse, State.okay, hholder]
  case inr.inl =>
    show (_ → execBusyResponse tag s = _) ∧ (_ → execBusyResponse tag s = _)
    constructor <;> intro hholder <;> simp only [execBusyResponse, State.busy, hholder]
  case inr.inr =>
    show (_ → execErrorResponse tag kind s = _) ∧ (_ → execErrorResponse tag kind s = _)
    constructor <;> intro hholder <;> simp only [execErrorResponse, State.error, hholder]

/-- Settles O29: what the tag names decides alone what a response of any kind does, and the slot that is freed is the
one named. -/
theorem strayResponsesAreDiscarded : Obligations.StrayResponsesAreDiscarded := by
  intro s c tag hc
  obtain ⟨hdiscarded, horphaned⟩ := exec_response_of_no_owner (s := s) hc
  refine ⟨fun hfree => hdiscarded ((holder_eq_discarded_iff s tag).2 hfree), ?write, ?readA, ?readB⟩
  case write =>
    rintro rfl hslot
    rw [horphaned ((holder_eq_orphaned_iff s 0).2 (.inl ⟨rfl, hslot⟩)), freeSlot_write]
  case readA =>
    rintro rfl hslot
    rw [horphaned ((holder_eq_orphaned_iff s 1).2 (.inr (.inl ⟨rfl, hslot⟩))), freeSlot_readA]
  case readB =>
    rintro rfl hslot
    rw [horphaned ((holder_eq_orphaned_iff s 2).2 (.inr (.inr ⟨rfl, hslot⟩))), freeSlot_readB]

end Sys2Proof.StrayResponses
end

section
/-! Responses to the write of a notice in the terms of the statements: the head of the pending notice FIFO leaves, Wd
rises, and an OKAY response is counted where an ERROR response sets two flags (R120, R138, R139). -/

namespace Sys2Proof.NoticeWrites

open Sys2Proof.Machine Sys2Proof.Laws Sys2Proof.StrayResponses

/-- A response for the WRITE slot finds the head of the pending notice FIFO while a notice write holds the slot
(R113). -/
theorem holder_write_of_noticeHead {s : State} (hslot : s.link.writeSlot = .occupied .noticeHead) :
    s.holder 0 = .noticeHead := by
  simp [State.holder, hslot]

/-- The state in which the write of the FIFO's head has ended: the slot is FREE, the rest `q` of the FIFO stays, and
Wd is one higher (R114, R138, R139). -/
def noticeEnded (s : State) (q : List PendingNotice) : State :=
  { s with
    notices := { s.notices with fifo := q, wd := s.notices.wd + 1 }
    link := { s.link with writeSlot := .free } }

theorem noticeLeaves_freeSlot_write {s : State} {n : PendingNotice} {q : List PendingNotice}
    (hfifo : s.notices.fifo = n :: q) : (s.freeSlot 0).noticeLeaves = noticeEnded s q := by
  rw [freeSlot_write, State.noticeLeaves, hfifo]
  rfl

theorem noticeLeaves_post (s : State) (f : EventFlag) : (s.post f).noticeLeaves = s.noticeLeaves.post f := rfl

/-- MEM_ERROR and NOTICE_LOST are bits 1 and 4 of the event register (section 12.4). -/
theorem post_memError_noticeLost (s : State) :
    (s.post .memError).post .noticeLost =
      { s with events := { s.events with flags := s.events.flags ||| 0x12 } } := by
  have hmask : EventFlag.memError.mask ||| EventFlag.noticeLost.mask = 0x12 := by decide
  simp only [State.post, BitVec.or_assoc, hmask]

/-- An OKAY response to a notice write ends it and is counted (R138, R170). -/
theorem exec_okayResponse_of_noticeHead {s : State} {n : PendingNotice} {q : List PendingNotice} (data : List Word)
    (hslot : s.link.writeSlot = .occupied .noticeHead) (hfifo : s.notices.fifo = n :: q) :
    exec (.okayResponse 0 data) s = .next (noticeEnded s q).countNoticeWritten := by
  show Host.Outcome.next (s.okay 0 data) = _
  simp only [State.okay, holder_write_of_noticeHead hslot, noticeLeaves_freeSlot_write hfifo]

/-- An ERROR response to a notice write ends it with MEM_ERROR and NOTICE_LOST (R120, R139). -/
theorem exec_errorResponse_of_noticeHead {s : State} {n : PendingNotice} {q : List PendingNotice} (kind : ErrorKind)
    (hslot : s.link.writeSlot = .occupied .noticeHead) (hfifo : s.notices.fifo = n :: q) :
    exec (.errorResponse 0 kind) s = .next (((noticeEnded s q).post .memError).post .noticeLost) := by
  show Host.Outcome.next (s.error 0) = _
  simp only [State.error, holder_write_of_noticeHead hslot, noticeLeaves_post, noticeLeaves_freeSlot_write hfifo]

/-- Settles O27: both responses end the notice write alike, and differ in the counter and in the flags. -/
theorem noticeLeavesAtItsResponse : Obligations.NoticeLeavesAtItsResponse := by
  rintro s _ n q data kind hslot hfifo rfl
  constructor
  case left =>
    rw [exec_okayResponse_of_noticeHead data hslot hfifo, countNoticeWritten_def]
    rfl
  case right =>
    rw [exec_errorResponse_of_noticeHead kind hslot hfifo, post_memError_noticeLost]
    rfl

end Sys2Proof.NoticeWrites
end

section
/-! The shape check of the host link in the terms of the statements: a request that is not aligned is answered FAULT
ALIGN before the Window Decoder sees it, and only the ALIGN counter rises (R158). -/

namespace Sys2Proof.HostLink

open Sys2Proof.Machine

theorem aligned_iff (a : Addr) (n : Nat) : aligned a n = true ↔ a.toNat % 8 = 0 ∧ a.toNat % 64 + 8 * n ≤ 64 := by
  simp only [aligned, Bool.and_eq_true, decide_eq_true_eq]

/-- ALIGN has code 2, so its counter is the second of the fault counters, at place 1 (sections 12.3 and 12.4). -/
theorem answerAlign_eq (s : State) :
    s.answerAlign = { s with
      hostResponse := some (.fault .align)
      events := { s.events with counters := { s.events.counters with
        faults := s.events.counters.faults.set 1 (satSucc s.events.counters.faults[1]) } } } := rfl

/-- The shape of a write is checked before its class (R158, R160). -/
theorem exec_writeArrival_of_not_aligned {s : State} {q : WriteRequest} (hline : s.lrstn = false)
    (hshape : ¬ aligned q.address (wordsOf q).length = true) : exec (.writeArrival q) s = .next s.answerAlign := by
  show execWriteArrival q s = _
  simp [execWriteArrival, State.takeWrite, hline, hshape]

/-- The shape of a read is checked before its class and before its match in the table (R158, R160). -/
theorem exec_readArrival_of_not_aligned {s : State} {k : ReadRequest} (hline : s.lrstn = false)
    (hshape : ¬ aligned k.address (countOf k) = true) : exec (.readArrival k) s = .next s.answerAlign := by
  show execReadArrival k s = _
  simp [execReadArrival, State.takeRead, hline, hshape]

/-- Settles O4: writes and reads fail one shape check, and its answer is FAULT ALIGN for both. -/
theorem misalignedRequestsFault : Obligations.MisalignedRequestsFault := by
  intro s hline
  rw [← answerAlign_eq s]
  constructor
  case left =>
    intro q hshape
    exact exec_writeArrival_of_not_aligned hline (mt (aligned_iff q.address (wordsOf q).length).1 hshape)
  case right =>
    intro k hshape
    exact exec_readArrival_of_not_aligned hline (mt (aligned_iff k.address (countOf k)).1 hshape)

end Sys2Proof.HostLink
end

section
/-! What a command can do, said once for all the laws of the whole part: every command is a run of moves, of the
queues, reads, notices and slots (`QueueMove`) or of the rings and their sectors (`RingMove`). -/

namespace Sys2Proof.Whole

open Sys2Proof.Machine Sys2Proof.Safety Sys2Proof.Laws Sys2Proof.Consumer

/-! ### What no law sees -/

/-- Two runtime records of a ring that agree on what the laws read: lifecycle, fill pointer, fill state and fill
timer. -/
structure RingAlike (x y : RingState) : Prop where
  lifecycle : y.lifecycle = x.lifecycle
  fillPointer : y.fillPointer = x.fillPointer
  fillState : y.fillState = x.fillState
  fillTimer : y.fillTimer = x.fillTimer

theorem RingAlike.refl (x : RingState) : RingAlike x x := ⟨rfl, rfl, rfl, rfl⟩

theorem RingAlike.trans {x y z : RingState} (h : RingAlike x y) (k : RingAlike y z) : RingAlike x z :=
  ⟨k.lifecycle.trans h.lifecycle, k.fillPointer.trans h.fillPointer, k.fillState.trans h.fillState,
    k.fillTimer.trans h.fillTimer⟩

theorem RingAlike.of_counters (x : RingState) (c : RingCounters) : RingAlike x { x with counters := c } :=
  ⟨rfl, rfl, rfl, rfl⟩

/-- A change that no law of the whole part sees: flags, counters, responses, settings and the port but for its
offset, which stays in the window. -/
structure Quiet (s t : State) : Prop where
  decode : t.decode = s.decode
  config : t.config = s.config
  rings : ∀ r, RingAlike (s.ring r) (t.ring r)
  sectors : t.sectors = s.sectors
  pwq : t.pwq = s.pwq
  headIssue : t.headIssue = s.headIssue
  reads : t.reads = s.reads
  notices : t.notices = s.notices
  writeSlot : t.link.writeSlot = s.link.writeSlot
  readA : t.link.readA = s.link.readA
  readB : t.link.readB = s.link.readB
  offset : s.port.offset.toNat ≤ 0x03FF → t.port.offset.toNat ≤ 0x03FF

/-- A change of fields that no law reads is quiet. -/
theorem Quiet.of_eq {s t : State} (decode : t.decode = s.decode) (config : t.config = s.config)
    (rings : t.rings = s.rings) (sectors : t.sectors = s.sectors) (pwq : t.pwq = s.pwq)
    (headIssue : t.headIssue = s.headIssue) (reads : t.reads = s.reads) (notices : t.notices = s.notices)
    (link : t.link = s.link) (offset : s.port.offset.toNat ≤ 0x03FF → t.port.offset.toNat ≤ 0x03FF) : Quiet s t where
  decode := decode
  config := config
  rings r := by
    have : t.ring r = s.ring r := by simp only [State.ring, rings]
    rw [this]
    exact RingAlike.refl _
  sectors := sectors
  pwq := pwq
  headIssue := headIssue
  reads := reads
  notices := notices
  writeSlot := by rw [link]
  readA := by rw [link]
  readB := by rw [link]
  offset := offset

theorem Quiet.refl (s : State) : Quiet s s := .of_eq rfl rfl rfl rfl rfl rfl rfl rfl rfl id

theorem Quiet.trans {s t u : State} (h : Quiet s t) (k : Quiet t u) : Quiet s u :=
  ⟨k.decode.trans h.decode, k.config.trans h.config, fun r => (h.rings r).trans (k.rings r),
    k.sectors.trans h.sectors, k.pwq.trans h.pwq, k.headIssue.trans h.headIssue, k.reads.trans h.reads,
    k.notices.trans h.notices, k.writeSlot.trans h.writeSlot, k.readA.trans h.readA, k.readB.trans h.readB,
    fun o => k.offset (h.offset o)⟩

theorem Quiet.post (s : State) (f : EventFlag) : Quiet s (s.post f) := .of_eq rfl rfl rfl rfl rfl rfl rfl rfl rfl id

theorem Quiet.setCounters (s : State) (c : DeviceCounters) : Quiet s (s.setCounters c) :=
  .of_eq rfl rfl rfl rfl rfl rfl rfl rfl rfl id

theorem Quiet.respond (s : State) (x : HostResponse) : Quiet s (s.respond x) :=
  .of_eq rfl rfl rfl rfl rfl rfl rfl rfl rfl id

theorem Quiet.loadResult (s : State) (code : Byte) (n : BitVec 4) (v : Verdict) : Quiet s (s.loadResult code n v) :=
  .of_eq rfl rfl rfl rfl rfl rfl rfl rfl rfl id

theorem Quiet.nack (s : State) : Quiet s s.nack := .of_eq rfl rfl rfl rfl rfl rfl rfl rfl rfl id

theorem Quiet.setNext (s : State) (q : Requester) : Quiet s (s.setNext q) :=
  ⟨rfl, rfl, fun _ => RingAlike.refl _, rfl, rfl, rfl, rfl, rfl, rfl, rfl, rfl, id⟩

theorem Quiet.setRing {s : State} {r : RingNo} {x : RingState} (h : RingAlike (s.ring r) x) :
    Quiet s (s.setRing r x) where
  decode := rfl
  config := rfl
  rings r' := by
    by_cases e : r = r'
    · subst e
      simpa using h
    · rw [setRing_ring_of_ne _ _ e]
      exact RingAlike.refl _
  sectors := rfl
  pwq := rfl
  headIssue := rfl
  reads := rfl
  notices := rfl
  writeSlot := rfl
  readA := rfl
  readB := rfl
  offset := id

theorem advanceOffset_le (o : BitVec 16) : (advanceOffset o).toNat ≤ 0x03FF := by
  simp only [advanceOffset, BitVec.toNat_and]
  exact Nat.and_le_right

theorem Quiet.pastByte (s : State) (o : BitVec 16) : Quiet s (s.pastByte o) := by
  refine .of_eq rfl rfl rfl rfl rfl rfl rfl rfl rfl fun h => ?_
  rw [pastByte_port_offset]
  split
  · exact advanceOffset_le o
  · exact h

theorem Quiet.pastRead (s : State) (o : BitVec 16) (a : Bool) : Quiet s (s.pastRead o a) := by
  refine .of_eq rfl rfl rfl rfl rfl rfl rfl rfl rfl fun h => ?_
  rw [pastRead_port_offset]
  split
  · exact advanceOffset_le o
  · exact h

theorem Quiet.answerFault (s : State) (f : FaultReason) : Quiet s (s.answerFault f) :=
  ((Quiet.setCounters _ _).trans (Quiet.post _ _)).trans (Quiet.respond _ _)

theorem RingAlike.countFault (x : RingState) (role : Role) : RingAlike x (x.countFault role) := by
  cases role <;> exact ⟨rfl, rfl, rfl, rfl⟩

theorem Quiet.answerRingFault (s : State) (r : RingNo) (role : Role) (f : FaultReason) :
    Quiet s (s.answerRingFault r role f) :=
  (Quiet.setRing (RingAlike.countFault _ role)).trans (Quiet.answerFault _ f)

theorem Quiet.answerAccept (s : State) : Quiet s s.answerAccept :=
  (Quiet.setCounters _ _).trans (Quiet.respond _ _)

theorem Quiet.answerQueueFull (s : State) : Quiet s s.answerQueueFull :=
  (Quiet.setCounters _ _).trans (Quiet.respond _ _)

theorem Quiet.answerAlign (s : State) : Quiet s s.answerAlign :=
  (Quiet.setCounters _ _).trans (Quiet.respond _ _)

theorem Quiet.stallProducer (s : State) (r : RingNo) : Quiet s (s.stallProducer r) :=
  (Quiet.setRing (RingAlike.of_counters _ _)).trans (Quiet.respond _ _)

/-! ### The moves -/

/-- The end of a fetch that keeps what names the entry and what it waits for, and is no longer in flight (R103,
R104, R121). -/
structure Answers (f : ReadEntry → ReadEntry) : Prop where
  request : ∀ e, (f e).request = e.request
  tag : ∀ e, (f e).tag = e.tag
  counted : ∀ e, (f e).counted = e.counted
  ended : ∀ e, (f e).inFlight = false

/-- The place that a created entry's tag names: the READY sector of a decoded window that holds the read's address
(R58, R59). -/
def TagFits (s : State) (k : ReadRequest) (tag : Option (RingNo × SectorNo)) : Prop :=
  ∀ r i, tag = some (r, i) → (s.record r i).state = .ready ∧
    ∃ d, s.window r = some d ∧ d.covers (lineOf k.address) = true ∧ i = d.sectorOf k.address

/-- The moves of the queues' issue, the reads, the notices and the slots. -/
inductive QueueMove : State → State → Prop where
  | quiet {s t : State} (h : Quiet s t) : QueueMove s t
  | indexReturned (s : State) (v : BitVec 16) (h : (v - s.notices.r).toNat ≤ (s.notices.wd - s.notices.r).toNat) :
      QueueMove s { s with notices := { s.notices with r := v } }
  | readRemoved (s : State) (k : ReadRequest) (e : ReadEntry) (x : ReadResult) (n : Nat)
      (found : s.findRead k = some e) (done : e.phase = .complete x n) : QueueMove s (s.removeRead k)
  | readCreated (s : State) (k : ReadRequest) (tag : Option (RingNo × SectorNo)) (place : s.readPlace k = true)
      (fresh : ∀ e ∈ s.reads, e.request ≠ k) (fits : TagFits s k tag) :
      QueueMove s { s with reads := s.reads ++
        [{ request := k, tag := tag, phase := .queued none, counted := lineHits (lineOf k.address) s.pwq }] }
  | headIssued (s : State) (h : s.queueEligible = true) : QueueMove s s.issueHead
  | readIssued (s : State) (e : ReadEntry) (offered : s.offeredRead = some e)
      (slot : s.link.readA = .free ∨ s.link.readB = .free) : QueueMove s (s.issueRead e)
  | noticeIssued (s : State) (h : s.noticeEligible = true) : QueueMove s s.issueNotice
  | slotFreed (s : State) (tag : BitVec 2) (h : s.holder tag = .orphaned ∨ s.holder tag = .noticeHead) :
      QueueMove s (s.freeSlot tag)
  | headRaised (s : State) : QueueMove s s.raiseHeadAttempts
  | headWaits (s : State) (slot : s.link.writeSlot = .occupied .queueHead) (h : s.headIsPurged = false) :
      QueueMove s (s.freeSlot 0).headBackoff
  | noticeLeft (s : State) (slot : s.link.writeSlot = .occupied .noticeHead) :
      QueueMove s (s.freeSlot 0).noticeLeaves
  | noticeHeadChanged (s : State) (n m : PendingNotice) (rest : List PendingNotice) (h : s.notices.fifo = n :: rest)
      (slot : m.slot = n.slot) : QueueMove s { s with notices := { s.notices with fifo := m :: rest } }
  | fetchEnded (s : State) (tag : BitVec 2) (k : ReadRequest) (f : ReadEntry → ReadEntry)
      (h : s.holder tag = .read k) (answers : Answers f) : QueueMove s ((s.freeSlot tag).finishRead k f)
  | headBackoffEnded (s : State) (h : s.headIssue = .backoff 0) : QueueMove s { s with headIssue := .waiting }
  | readBackoffEnded (s : State) (k : ReadRequest) : QueueMove s (s.updateRead k ReadEntry.endBackoff)
  | readsFreed (s : State) (p : ReadEntry → Bool) : QueueMove s (s.freeReads p)
  | noticesEnabled (s : State) (off : s.notices.enabled = false) (slot : s.link.writeSlot ≠ .occupied .noticeHead)
      (valid : s.notices.valid = true) (apart : s.noticeOverlaps = false) :
      QueueMove s { s with notices := s.notices.enable }
  | noticesDisabled (s : State) : QueueMove s { s with notices := { s.notices with enabled := false } }
  | noticesConfigured (s : State) (base word : Addr) (code : Byte) (off : s.notices.enabled = false) :
      QueueMove s { s with notices := { s.notices with base := base, returnAddress := word, slotCode := code } }

/-- The moves of the rings, their sectors and the queue's entries. -/
inductive RingMove : State → State → Prop where
  | passJoined (s : State) (e : QueueEntry) (kind : e.kind = .pass) (room : s.pwq.length < 32) :
      RingMove s (s.enqueue e)
  | messageStored (s : State) (r : RingNo) (w : Nat) (q : WriteRequest) (opened : (s.ring r).fillState = .opened)
      (room : s.pwq.length < 32) : RingMove s (s.storeWrite r w q)
  | messageOpened (s : State) (r : RingNo) (w : Nat) (q : WriteRequest) (window : (s.window r).isSome = true)
      (notPurging : (s.ring r).lifecycle ≠ .purging) (notStopping : (s.ring r).lifecycle ≠ .stopping)
      (idle : (s.ring r).fillState = .idle) (free : (s.record r (s.ring r).fillPointer).state = .free)
      (room : s.pwq.length < 32) : RingMove s ((s.openSector r).storeWrite r w q)
  | shadowBegun (s : State) (r : RingNo) (w : Nat) (q : WriteRequest) (window : (s.window r).isSome = true)
      (notPurging : (s.ring r).lifecycle ≠ .purging) (notStopping : (s.ring r).lifecycle ≠ .stopping)
      (idle : (s.ring r).fillState = .idle) : RingMove s ((s.beginShadow r).shadowWrite r w q)
  | shadowContinued (s : State) (r : RingNo) (w : Nat) (q : WriteRequest)
      (shadow : (s.ring r).fillState = .shadow) : RingMove s (s.shadowWrite r w q)
  | released (s : State) (r : RingNo) (i : SectorNo) (q : WriteRequest) (ready : (s.record r i).state = .ready)
      (room : s.pwq.length < 32) : RingMove s (s.release r i q)
  | headDeparted (s : State) (lost : Bool) (slot : s.link.writeSlot = .occupied .queueHead) :
      RingMove s ((s.freeSlot 0).depart lost)
  | messageClosed (s : State) (r : RingNo) (mark : SectorFlags → SectorFlags) : RingMove s (s.closeCurrent r mark)
  | poweredOn (s : State) (ma : BitVec 2) : RingMove s (s.powerOn ma)
  | activated (s : State) (r : RingNo) (off : (s.ring r).lifecycle = .off) (valid : (s.cfg r).valid = true)
      (apart : s.enableOverlaps r = false) : RingMove s (s.activate r)
  | stopped (s : State) (r : RingNo) (active : (s.ring r).lifecycle = .active) :
      RingMove s ((s.setRing r { s.ring r with lifecycle := .stopping }).stopTest r)
  | purged (s : State) (r : RingNo) (serving : serves s r) : RingMove s (((s.purgeRing r).purgeTest r).retire)
  | datapathReset (s : State) : RingMove s s.resetDatapath
  | ringConfigured (s : State) (r : RingNo) (c : RingConfig) (off : (s.ring r).lifecycle = .off) :
      RingMove s { s with config := s.config.set r c }
  | ticked (s : State) : RingMove s s.tick

/-- One move. -/
def Move (s t : State) : Prop := QueueMove s t ∨ RingMove s t

/-- A run of moves. -/
abbrev Moves : State → State → Prop := Relation.ReflTransGen Move

theorem QueueMove.moves {s t : State} (h : QueueMove s t) : Moves s t := .single (.inl h)

theorem RingMove.moves {s t : State} (h : RingMove s t) : Moves s t := .single (.inr h)

theorem Quiet.moves {s t : State} (h : Quiet s t) : Moves s t := (QueueMove.quiet h).moves

/-- What every move keeps, every run of moves keeps. -/
theorem Moves.keep {P : State → Prop} (h : ∀ s t, P s → Move s t → P t) {s t : State} (p : P s) (m : Moves s t) :
    P t := by
  induction m with
  | refl => exact p
  | tail _ m ih => exact h _ _ ih m

/-! ### Host link -/

/-- A request of class RING lies in its ring's decoded window, in the sector of its address (R4, R5). -/
theorem window_of_classify {s : State} {a : Addr} {n : Nat} {i : InitiatorId} {r : RingNo} {x : SectorNo} {w : Nat}
    {role : Role} (h : s.classify a n i = .ring r x w role) :
    ∃ d, s.window r = some d ∧ d.covers (lineOf a) = true ∧ x = d.sectorOf a := by
  unfold State.classify at h
  cases hr : s.ringAt a with
  | none =>
    simp only [hr] at h
    split at h <;> cases h
  | some r' =>
    have covered := List.find?_some hr
    cases hw : s.window r' with
    | none => simp [hr, hw] at h
    | some d =>
      simp only [hr, hw] at h covered
      cases h
      exact ⟨d, hw, covered, rfl⟩

theorem moves_passWrite (s : State) (q : WriteRequest) : Moves s (s.passWrite q) := by
  unfold State.passWrite
  split
  · next h =>
    exact (RingMove.passJoined s _ rfl (of_decide_eq_true h)).moves.trans (Quiet.answerAccept _).moves
  · exact (Quiet.answerQueueFull s).moves

theorem moves_snoop (s : State) (v : Word) : Moves s (s.snoop v) := by
  unfold State.snoop
  extract_lets r'
  split
  · next h => exact (QueueMove.indexReturned s r' h).moves
  · exact (Quiet.post s _).moves

theorem moves_returnWrite (s : State) (q : WriteRequest) : Moves s (s.returnWrite q) := by
  unfold State.returnWrite
  split
  · split
    · exact (moves_passWrite s q).trans (moves_snoop _ _)
    · exact moves_passWrite s q
  · exact (Quiet.answerQueueFull s).moves

theorem moves_takeProducerWrite {s : State} {r : RingNo} (w : Nat) (q : WriteRequest)
    (window : (s.window r).isSome = true) (notPurging : (s.ring r).lifecycle ≠ .purging)
    (open_ : ¬ ((s.ring r).lifecycle = .stopping ∧ (s.ring r).fillState = .idle)) :
    Moves s (s.takeProducerWrite r w q) := by
  unfold State.takeProducerWrite
  cases hf : (s.ring r).fillState with
  | idle =>
    have notStopping : (s.ring r).lifecycle ≠ .stopping := fun h => open_ ⟨h, hf⟩
    simp only []
    split
    · next free =>
      split
      · next room =>
        exact (RingMove.messageOpened s r w q window notPurging notStopping hf free (of_decide_eq_true room)).moves
      · exact (Quiet.answerQueueFull s).moves
    · split
      · exact (RingMove.shadowBegun s r w q window notPurging notStopping hf).moves
      · exact (Quiet.stallProducer s r).moves
  | opened =>
    simp only []
    split
    · next room => exact (RingMove.messageStored s r w q hf (of_decide_eq_true room)).moves
    · exact (Quiet.answerQueueFull s).moves
  | shadow => exact (RingMove.shadowContinued s r w q hf).moves

theorem moves_producerWrite {s : State} {r : RingNo} (i : SectorNo) (w : Nat) (q : WriteRequest)
    (window : (s.window r).isSome = true) (notPurging : (s.ring r).lifecycle ≠ .purging) :
    Moves s (s.producerWrite r i w q) := by
  unfold State.producerWrite
  split
  · exact (Quiet.answerRingFault s r _ _).moves
  · split
    · exact (Quiet.answerRingFault s r _ _).moves
    · next open_ =>
      split
      · exact (Quiet.answerRingFault s r _ _).moves
      · split
        · exact (Quiet.answerRingFault s r _ _).moves
        · exact moves_takeProducerWrite w q window notPurging open_

theorem moves_release (s : State) (r : RingNo) (i : SectorNo) (q : WriteRequest) : Moves s (s.release r i q) := by
  by_cases ready : (s.record r i).state = .ready
  · by_cases room : s.pwq.length < 32
    · exact (RingMove.released s r i q ready room).moves
    · have full : ¬ s.hasRoom = true := mt of_decide_eq_true room
      rw [State.release, if_pos ready, if_neg full]
      exact (Quiet.answerQueueFull s).moves
  · rw [State.release, if_neg ready]
    exact (Quiet.answerRingFault s r _ _).moves

theorem moves_ringWrite {s : State} {r : RingNo} (i : SectorNo) (w : Nat) (role : Role) (q : WriteRequest)
    (window : (s.window r).isSome = true) : Moves s (s.ringWrite r i w role q) := by
  unfold State.ringWrite
  split
  · exact (Quiet.answerRingFault s r _ _).moves
  · next notPurging =>
    cases role with
    | other => exact (Quiet.answerRingFault s r _ _).moves
    | monitor => exact (Quiet.answerRingFault s r _ _).moves
    | consumer =>
      simp only []
      split
      · exact moves_release s r i q
      · exact (Quiet.answerRingFault s r _ _).moves
    | producer => exact moves_producerWrite i w q window notPurging

theorem moves_takeWrite (s : State) (q : WriteRequest) : Moves s (s.takeWrite q) := by
  unfold State.takeWrite
  split
  · cases h : s.classify q.address (wordsOf q).length q.initiator with
    | pass => exact moves_passWrite s q
    | noticeReturn => exact moves_returnWrite s q
    | ring r i w role =>
      obtain ⟨d, window, -⟩ := window_of_classify h
      exact moves_ringWrite i w role q (by rw [window]; rfl)
  · exact (Quiet.answerAlign s).moves

theorem moves_answerReadFault (s : State) (inRing : Option (RingNo × Role)) (f : FaultReason) :
    Moves s (s.answerReadFault inRing f) := by
  cases inRing with
  | none => exact (Quiet.answerFault s f).moves
  | some x => exact (Quiet.answerRingFault s x.1 x.2 f).moves

theorem moves_createRead {s : State} {k : ReadRequest} {tag : Option (RingNo × SectorNo)}
    (fresh : ∀ e ∈ s.reads, e.request ≠ k) (fits : TagFits s k tag) : Moves s (s.createRead k tag) := by
  unfold State.createRead
  split
  · next place => exact (QueueMove.readCreated s k tag place fresh fits).moves.trans (Quiet.respond _ _).moves
  · exact (Quiet.respond s _).moves

theorem tagFits_none (s : State) (k : ReadRequest) : TagFits s k none := nofun

/-- A read with an entry is answered by it, and one with none goes on (R95). -/
theorem moves_matchRead {s : State} {k : ReadRequest} (inRing : Option (RingNo × Role)) {unmatched : State}
    (h : (∀ e ∈ s.reads, e.request ≠ k) → Moves s unmatched) : Moves s (s.matchRead k inRing unmatched) := by
  cases found : s.findRead k with
  | none =>
    have fresh := findRead_none.1 found
    rw [matchRead_of_no_entry fresh]
    exact h fresh
  | some e =>
    cases phase : e.phase with
    | queued b =>
      rw [matchRead_of_queued _ _ found phase]
      exact (Quiet.respond s _).moves
    | issued b =>
      rw [matchRead_of_issued _ _ found phase]
      exact (Quiet.respond s _).moves
    | complete x n =>
      rw [matchRead_of_complete _ _ found phase]
      have removed : Moves s (s.removeRead k) := (QueueMove.readRemoved s k e x n found phase).moves
      cases x with
      | data ws => exact removed.trans ((Quiet.setCounters _ _).trans (Quiet.respond _ _)).moves
      | memError => exact removed.trans (moves_answerReadFault _ _ _)
      | budget => exact removed.trans (moves_answerReadFault _ _ _)

theorem moves_gate {s : State} {r : RingNo} {i : SectorNo} (role : Role) {k : ReadRequest} {d : DecodeEntry}
    (window : s.window r = some d) (covered : d.covers (lineOf k.address) = true) (sector : i = d.sectorOf k.address)
    (fresh : ∀ e ∈ s.reads, e.request ≠ k) : Moves s (s.gate r i role k) := by
  unfold State.gate
  cases h : (s.record r i).state with
  | ready =>
    refine moves_createRead fresh fun r' i' e => ?_
    cases e
    exact ⟨h, d, window, covered, sector⟩
  | closing => exact (Quiet.respond s _).moves
  | free => exact (Quiet.answerRingFault s r _ _).moves
  | filling => exact (Quiet.answerRingFault s r _ _).moves
  | releasing => exact (Quiet.answerRingFault s r _ _).moves
  | purging => exact (Quiet.answerRingFault s r _ _).moves

theorem moves_ringRead {s : State} {r : RingNo} {i : SectorNo} (role : Role) {k : ReadRequest} {d : DecodeEntry}
    (window : s.window r = some d) (covered : d.covers (lineOf k.address) = true)
    (sector : i = d.sectorOf k.address) : Moves s (s.ringRead r i role k) := by
  unfold State.ringRead
  split
  · exact (Quiet.answerRingFault s r _ _).moves
  · cases role with
    | other => exact (Quiet.answerRingFault s r _ _).moves
    | producer => exact moves_matchRead _ fun fresh => moves_createRead fresh (tagFits_none s k)
    | consumer => exact moves_matchRead _ (moves_gate _ window covered sector)
    | monitor => exact moves_matchRead _ (moves_gate _ window covered sector)

theorem moves_takeRead (s : State) (k : ReadRequest) : Moves s (s.takeRead k) := by
  unfold State.takeRead
  split
  · cases h : s.classify k.address (countOf k) k.initiator with
    | pass => exact moves_matchRead _ fun fresh => moves_createRead fresh (tagFits_none s k)
    | noticeReturn => exact moves_matchRead _ fun fresh => moves_createRead fresh (tagFits_none s k)
    | ring r i w role =>
      obtain ⟨d, window, covered, sector⟩ := window_of_classify h
      exact moves_ringRead role window covered sector
  · exact (Quiet.answerAlign s).moves

/-! ### Memory link -/

theorem moves_grant (s : State) : Moves s s.grant := by
  obtain ⟨-, h⟩ | ⟨q, -, eligible, h⟩ := grant_cases s <;> rw [h]
  refine .trans ?_ (Quiet.setNext _ _).moves
  cases q with
  | pwq => exact (QueueMove.headIssued s eligible).moves
  | drt =>
    obtain ⟨offered, slot⟩ := (Bool.and_eq_true _ _).mp eligible
    obtain ⟨e, he⟩ := Option.isSome_iff_exists.1 offered
    have issued : s.issue .drt = s.issueRead e := by simp only [State.issue, he]
    rw [issued]
    exact (QueueMove.readIssued s e he (by simpa using slot)).moves
  | notice => exact (QueueMove.noticeIssued s eligible).moves

theorem holder_queueHead {s : State} {tag : BitVec 2} (h : s.holder tag = .queueHead) :
    tag = 0 ∧ s.link.writeSlot = .occupied .queueHead := by
  rcases holder_cases s tag with ⟨rfl, ⟨-, k⟩ | ⟨-, k⟩ | ⟨slot, -⟩ | ⟨-, k⟩⟩ | ⟨-, k⟩ | ⟨-, k⟩ | ⟨-, k⟩
  case inl.inr.inr.inl => exact ⟨rfl, slot⟩
  case inr.inl => rw [k] at h; cases hA : s.link.readA <;> rw [hA] at h <;> cases h
  case inr.inr.inl => rw [k] at h; cases hB : s.link.readB <;> rw [hB] at h <;> cases h
  all_goals rw [k] at h; cases h

theorem holder_noticeHead {s : State} {tag : BitVec 2} (h : s.holder tag = .noticeHead) :
    tag = 0 ∧ s.link.writeSlot = .occupied .noticeHead := by
  rcases holder_cases s tag with ⟨rfl, ⟨-, k⟩ | ⟨-, k⟩ | ⟨-, k⟩ | ⟨slot, -⟩⟩ | ⟨-, k⟩ | ⟨-, k⟩ | ⟨-, k⟩
  case inl.inr.inr.inr => exact ⟨rfl, slot⟩
  case inr.inl => rw [k] at h; cases hA : s.link.readA <;> rw [hA] at h <;> cases h
  case inr.inr.inl => rw [k] at h; cases hB : s.link.readB <;> rw [hB] at h <;> cases h
  all_goals rw [k] at h; cases h

theorem answers_completed (s : State) (x : ReadResult) : Answers (s.completed x) :=
  ⟨fun _ => rfl, fun _ => rfl, fun _ => rfl, fun _ => rfl⟩

theorem answers_busyEntry (s : State) : Answers s.busyEntry := by
  constructor <;> intro e <;> unfold State.busyEntry <;> split <;> rfl

theorem moves_okay (s : State) (tag : BitVec 2) (data : List Word) : Moves s (s.okay tag data) := by
  unfold State.okay
  cases h : s.holder tag with
  | discarded => exact .refl
  | orphaned => exact (QueueMove.slotFreed s tag (.inl h)).moves
  | queueHead =>
    obtain ⟨rfl, slot⟩ := holder_queueHead h
    exact (RingMove.headDeparted s false slot).moves
  | noticeHead =>
    obtain ⟨rfl, slot⟩ := holder_noticeHead h
    exact (QueueMove.noticeLeft s slot).moves.trans (Quiet.setCounters _ _).moves
  | read k => exact (QueueMove.fetchEnded s tag k _ h (answers_completed s _)).moves

theorem moves_error (s : State) (tag : BitVec 2) : Moves s (s.error tag) := by
  unfold State.error
  have flagged : Moves s (s.post .memError) := (Quiet.post s _).moves
  cases h : s.holder tag with
  | discarded => exact .refl
  | orphaned => exact (QueueMove.slotFreed s tag (.inl h)).moves
  | queueHead =>
    obtain ⟨rfl, slot⟩ := holder_queueHead h
    exact flagged.trans (RingMove.headDeparted (s.post .memError) true slot).moves
  | noticeHead =>
    obtain ⟨rfl, slot⟩ := holder_noticeHead h
    exact (flagged.trans (QueueMove.noticeLeft (s.post .memError) slot).moves).trans (Quiet.post _ _).moves
  | read k =>
    exact flagged.trans (QueueMove.fetchEnded (s.post .memError) tag k _ h (answers_completed s _)).moves

/-- The attempts of the head are its own, and not of the state in which its slot is FREE. -/
theorem raiseHeadAttempts_freeSlot (s : State) (tag : BitVec 2) :
    (s.freeSlot tag).raiseHeadAttempts = s.raiseHeadAttempts.freeSlot tag := by
  unfold State.raiseHeadAttempts
  rw [freeSlot_pwq]
  split <;> rfl

@[simp] theorem raiseHeadAttempts_link (s : State) : s.raiseHeadAttempts.link = s.link := by
  unfold State.raiseHeadAttempts
  split <;> rfl

theorem moves_headBusy {s : State} (slot : s.link.writeSlot = .occupied .queueHead) :
    Moves s (s.freeSlot 0).headBusy := by
  have raised : Moves s s.raiseHeadAttempts := (QueueMove.headRaised s).moves
  have slot' : s.raiseHeadAttempts.link.writeSlot = .occupied .queueHead := by rw [raiseHeadAttempts_link, slot]
  unfold State.headBusy
  simp only [raiseHeadAttempts_freeSlot]
  split
  · exact raised.trans (RingMove.headDeparted _ true slot').moves
  · split
    · exact raised.trans (RingMove.headDeparted _ false slot').moves
    · next keeps => exact raised.trans (QueueMove.headWaits _ slot' (Bool.not_eq_true _ ▸ keeps)).moves

theorem moves_noticeBusy {s : State} (slot : s.link.writeSlot = .occupied .noticeHead) :
    Moves s (s.freeSlot 0).noticeBusy := by
  have holder : s.holder 0 = .noticeHead := by simp [State.holder, slot]
  have freed : Moves s (s.freeSlot 0) := (QueueMove.slotFreed s 0 (.inr holder)).moves
  unfold State.noticeBusy
  split
  · exact freed
  · next n rest hfifo =>
    split
    · exact (QueueMove.noticeLeft s slot).moves.trans (Quiet.post _ _).moves
    · exact freed.trans (QueueMove.noticeHeadChanged (s.freeSlot 0) n
        { n with attempts := satSucc n.attempts, backoff := (s.freeSlot 0).backoffInterval } rest hfifo rfl).moves

theorem moves_busy (s : State) (tag : BitVec 2) : Moves s (s.busy tag) := by
  unfold State.busy
  have counted : Moves s s.countBusy := (Quiet.setCounters s _).moves
  cases h : s.holder tag with
  | discarded => exact .refl
  | orphaned => exact (QueueMove.slotFreed s tag (.inl h)).moves
  | queueHead =>
    obtain ⟨rfl, slot⟩ := holder_queueHead h
    exact counted.trans (moves_headBusy (s := s.countBusy) slot)
  | noticeHead =>
    obtain ⟨rfl, slot⟩ := holder_noticeHead h
    exact counted.trans (moves_noticeBusy (s := s.countBusy) slot)
  | read k =>
    exact counted.trans (QueueMove.fetchEnded s.countBusy tag k _ h (answers_busyEntry s)).moves

theorem moves_endBackoff (s : State) (owner : BackoffOwner) : Moves s (s.endBackoff owner) := by
  cases owner with
  | queueHead =>
    show Moves s (if _ then _ else _)
    split
    · next h => exact (QueueMove.headBackoffEnded s h).moves
    · exact .refl
  | read k => exact (QueueMove.readBackoffEnded s k).moves
  | noticeHead =>
    show Moves s s.endNoticeBackoff
    unfold State.endNoticeBackoff
    split
    · exact .refl
    · next n rest hfifo =>
      split
      · exact (QueueMove.noticeHeadChanged s n { n with backoff := none } rest hfifo rfl).moves
      · exact .refl

/-! ### Time and reset lines -/

theorem moves_expireFill (s : State) (r : RingNo) : Moves s (s.expireFill r) := by
  unfold State.expireFill
  split
  · have quiet : Quiet s ((s.setRing r (s.ring r).countFillTimeout).post .fillTimeout) :=
      (Quiet.setRing (RingAlike.of_counters _ _)).trans (Quiet.post _ _)
    exact quiet.moves.trans (RingMove.messageClosed _ r _).moves
  · exact .refl

theorem moves_expireRead (s : State) (k : ReadRequest) : Moves s (s.expireRead k) := by
  unfold State.expireRead
  cases found : s.findRead k with
  | none => exact .refl
  | some e =>
    simp only []
    split
    · next expired =>
      cases phase : e.phase with
      | complete x n =>
        exact (QueueMove.readRemoved s k e x n found phase).moves.trans
          ((Quiet.setCounters _ _).trans (Quiet.post _ _)).moves
      | queued b => simp [ReadEntry.expired, phase] at expired
      | issued b => simp [ReadEntry.expired, phase] at expired
    · exact .refl

theorem moves_abortRing (s : State) (r : RingNo) : Moves s (s.abortRing r) := by
  unfold State.abortRing
  split
  · exact (RingMove.messageClosed s r _).moves
  · exact .refl

theorem moves_abortRings (order : List RingNo) : ∀ s : State, Moves s (order.foldl State.abortRing s) := by
  induction order with
  | nil => exact fun _ => .refl
  | cons r order ih => exact fun s => (moves_abortRing s r).trans (ih _)

theorem moves_linkReset (s : State) (order : List RingNo) : Moves s (s.linkReset order) :=
  ((QueueMove.readsFreed s _).moves.trans (moves_abortRings order _)).trans (Quiet.post _ _).moves

theorem Quiet.lineAsserted (s : State) (n : Nat) : Quiet s { s with lrstn := true, orderChoice := n } :=
  .of_eq rfl rfl rfl rfl rfl rfl rfl rfl rfl id

/-! ### Commands -/

theorem moves_commandEnable (s : State) (ring : BitVec 4) : Moves s (s.commandEnable ring) := by
  unfold State.commandEnable
  cases namedRing ring with
  | none => exact (Quiet.loadResult s _ _ _).moves
  | some r =>
    simp only []
    split
    · exact (Quiet.loadResult s _ _ _).moves
    · next off =>
      split
      · exact (Quiet.loadResult s _ _ _).moves
      · next valid =>
        split
        · exact (Quiet.loadResult s _ _ _).moves
        · next apart =>
          exact (RingMove.activated s r (not_not.1 off) (by simpa using valid) (by simpa using apart)).moves.trans
            (Quiet.loadResult _ _ _ _).moves

theorem moves_commandStop (s : State) (ring : BitVec 4) : Moves s (s.commandStop ring) := by
  unfold State.commandStop
  cases namedRing ring with
  | none => exact (Quiet.loadResult s _ _ _).moves
  | some r =>
    simp only []
    split
    · exact (Quiet.loadResult s _ _ _).moves
    · next active => exact (RingMove.stopped s r (not_not.1 active)).moves.trans (Quiet.loadResult _ _ _ _).moves

theorem moves_commandPurge (s : State) (ring : BitVec 4) : Moves s (s.commandPurge ring) := by
  unfold State.commandPurge
  cases namedRing ring with
  | none => exact (Quiet.loadResult s _ _ _).moves
  | some r =>
    simp only []
    split
    · next serving => exact (RingMove.purged s r serving).moves.trans (Quiet.loadResult _ _ _ _).moves
    · exact (Quiet.loadResult s _ _ _).moves

theorem moves_commandFlushReads (s : State) (ring : BitVec 4) : Moves s (s.commandFlushReads ring) :=
  (QueueMove.readsFreed s _).moves.trans (Quiet.loadResult _ _ _ _).moves

theorem Quiet.clearCounters (s : State) : Quiet s { s with rings := s.rings.map RingState.clearCounters } where
  decode := rfl
  config := rfl
  rings r := by
    have : ({ s with rings := s.rings.map RingState.clearCounters } : State).ring r = (s.ring r).clearCounters := by
      simp [State.ring]
    rw [this]
    exact ⟨rfl, rfl, rfl, rfl⟩
  sectors := rfl
  pwq := rfl
  headIssue := rfl
  reads := rfl
  notices := rfl
  writeSlot := rfl
  readA := rfl
  readB := rfl
  offset := id

theorem moves_commandClearCounters (s : State) (ring : BitVec 4) : Moves s (s.commandClearCounters ring) :=
  (((Quiet.clearCounters s).trans (Quiet.setCounters _ _)).trans (Quiet.loadResult _ _ _ _)).moves

theorem moves_commandNoticeEnable (s : State) (ring : BitVec 4) : Moves s (s.commandNoticeEnable ring) := by
  unfold State.commandNoticeEnable
  split
  · exact (Quiet.loadResult s _ _ _).moves
  · next off =>
    obtain ⟨off, slot⟩ := not_or.1 off
    split
    · exact (Quiet.loadResult s _ _ _).moves
    · next valid =>
      split
      · exact (Quiet.loadResult s _ _ _).moves
      · next apart =>
        exact (QueueMove.noticesEnabled s (by simpa using off) slot (by simpa using valid)
          (by simpa using apart)).moves.trans (Quiet.loadResult _ _ _ _).moves

theorem moves_commandNoticeDisable (s : State) (ring : BitVec 4) : Moves s (s.commandNoticeDisable ring) := by
  unfold State.commandNoticeDisable
  split
  · exact (QueueMove.noticesDisabled s).moves.trans (Quiet.loadResult _ _ _ _).moves
  · exact (Quiet.loadResult s _ _ _).moves

theorem moves_commandDatapathReset (s : State) (ring : BitVec 4) : Moves s (s.commandDatapathReset ring) :=
  (RingMove.datapathReset s).moves.trans (Quiet.loadResult _ _ _ _).moves

theorem moves_takeCommand (s : State) (code : Byte) (ring : BitVec 4) : Moves s (s.takeCommand code ring) := by
  unfold State.takeCommand
  split
  · exact moves_commandEnable s ring
  split
  · exact moves_commandStop s ring
  split
  · exact moves_commandPurge s ring
  split
  · exact moves_commandFlushReads s ring
  split
  · exact moves_commandClearCounters s ring
  split
  · exact moves_commandNoticeEnable s ring
  split
  · exact moves_commandNoticeDisable s ring
  split
  · exact moves_commandDatapathReset s ring
  · exact (Quiet.loadResult s _ _ _).moves

/-! ### The management port -/

/-- A byte of a named register leads past the register unless the port is deaf (log entry 5). -/
theorem moves_named {s t : State} (o : BitVec 16) (h : Moves s t) :
    ∃ u, (if s.portDeaf then Host.Outcome.next s.nack else .next (t.pastByte o) : Host.Outcome State Fault Refusal) =
      .next u ∧ Moves s u := by
  split
  · exact ⟨_, rfl, (Quiet.nack s).moves⟩
  · exact ⟨_, rfl, h.trans (Quiet.pastByte _ _).moves⟩

theorem Quiet.clearFlags (s : State) (half : RegisterHalf) (b : Byte) : Quiet s (s.clearFlags half b) :=
  .of_eq rfl rfl rfl rfl rfl rfl rfl rfl rfl id

theorem Quiet.writeMask (s : State) (half : RegisterHalf) (b : Byte) : Quiet s (s.writeMask half b) :=
  .of_eq rfl rfl rfl rfl rfl rfl rfl rfl rfl id

theorem Quiet.inspect (s : State) (b : Byte) : Quiet s (s.inspect b) :=
  .of_eq rfl rfl rfl rfl rfl rfl rfl rfl rfl id

/-- A stored field that is not locked: a ring's configuration while the ring is OFF, the notice queue's while it is
disabled, a setting, or the taking of a command (R144, R149, R177). -/
theorem moves_store {s : State} {f : Field} (open_ : s.locked f = false) (v : BitVec 64)
    (stored : f.isStored = true) : Moves s (s.store f v) := by
  unfold State.store
  split
  · next r x =>
    have off : (s.ring r).lifecycle = .off := by
      simp only [Field.isStored] at stored
      simpa [State.locked, stored] using open_
    exact (RingMove.ringConfigured s r _ off).moves
  · unfold State.storeDiscardTime
    split
    · exact Quiet.moves (.of_eq rfl rfl rfl rfl rfl rfl rfl rfl rfl id)
    · exact .refl
  · exact Quiet.moves ⟨rfl, rfl, fun _ => RingAlike.refl _, rfl, rfl, rfl, rfl, rfl, rfl, rfl, rfl, id⟩
  · exact Quiet.moves ⟨rfl, rfl, fun _ => RingAlike.refl _, rfl, rfl, rfl, rfl, rfl, rfl, rfl, rfl, id⟩
  · have off : s.notices.enabled = false := by simpa [State.locked, Field.isNoticeConfig] using open_
    exact (QueueMove.noticesConfigured s (v.setWidth 32) s.notices.returnAddress s.notices.slotCode off).moves
  · have off : s.notices.enabled = false := by simpa [State.locked, Field.isNoticeConfig] using open_
    exact (QueueMove.noticesConfigured s s.notices.base (v.setWidth 32) s.notices.slotCode off).moves
  · have off : s.notices.enabled = false := by simpa [State.locked, Field.isNoticeConfig] using open_
    exact (QueueMove.noticesConfigured s s.notices.base s.notices.returnAddress (v.setWidth 8) off).moves
  · exact moves_takeCommand s _ _
  · exact .refl

/-- What a field locks is not the port's. -/
theorem locked_withPort (s : State) (p : Port) (f : Field) : ({ s with port := p } : State).locked f = s.locked f := by
  cases f <;> rfl

theorem moves_stage {s : State} {f : Field} (open_ : s.locked f = false) (stored : f.isStored = true) (k : Nat)
    (b : Byte) : Moves s (s.stage f k b) := by
  unfold State.stage
  extract_lets bytes
  split
  · have emptied : Moves s { s with port := { s.port with staging := none } } :=
      Quiet.moves (.of_eq rfl rfl rfl rfl rfl rfl rfl rfl rfl id)
    exact emptied.trans (moves_store ((locked_withPort s _ f).trans open_) _ stored)
  · exact Quiet.moves (.of_eq rfl rfl rfl rfl rfl rfl rfl rfl rfl id)

theorem moves_writeField (s : State) (f : Field) (k : Nat) (b : Byte) : Moves s (s.writeField f k b) := by
  unfold State.writeField
  split
  · exact Quiet.moves (.of_eq rfl rfl rfl rfl rfl rfl rfl rfl rfl id)
  · next open_ =>
    split
    · exact (Quiet.clearFlags s _ _).moves
    · exact (Quiet.clearFlags s _ _).moves
    · exact (Quiet.writeMask s _ _).moves
    · exact (Quiet.writeMask s _ _).moves
    · exact (Quiet.inspect s _).moves
    · split
      · next stored =>
        split
        · exact moves_store (by simpa using open_) _ stored
        · exact moves_stage (by simpa using open_) stored k b
      · exact .refl

theorem moves_dataByte (s : State) (b : Byte) : Moves s (s.dataByte b) := by
  unfold State.dataByte
  split
  · exact (Quiet.nack s).moves
  · refine .trans ?_ (Quiet.pastByte _ _).moves
    unfold State.writeByteAt
    split
    · exact moves_writeField s _ _ _
    · exact .refl

theorem quiet_offsetBytes (s : State) (high : Byte) (low : Option Byte) : Quiet s (s.offsetBytes high low) := by
  unfold State.offsetBytes
  split
  · exact Quiet.nack s
  · split
    · unfold State.completeOffset
      split
      · next inside => exact .of_eq rfl rfl rfl rfl rfl rfl rfl rfl rfl fun _ => Nat.le_of_lt_succ inside
      · exact .of_eq rfl rfl rfl rfl rfl rfl rfl rfl rfl id
    · exact .of_eq rfl rfl rfl rfl rfl rfl rfl rfl rfl id

theorem quiet_addressByte (s : State) (a : BitVec 7) (read : Bool) : Quiet s (s.addressByte a read) := by
  unfold State.addressByte
  split <;> exact .of_eq rfl rfl rfl rfl rfl rfl rfl rfl rfl id

theorem Quiet.readField (s : State) (f : Field) (k : Nat) : Quiet s (s.readField f k) :=
  .of_eq rfl rfl rfl rfl rfl rfl rfl rfl rfl id

theorem quiet_readByte (s : State) (a : Bool) : Quiet s (s.readByte a) := by
  unfold State.readByte
  split
  · exact .of_eq rfl rfl rfl rfl rfl rfl rfl rfl rfl id
  · split
    · exact .of_eq rfl rfl rfl rfl rfl rfl rfl rfl rfl id
    · refine .trans ?_ (Quiet.pastRead _ _ _)
      unfold State.readByteAt
      split
      · exact Quiet.readField s _ _
      · exact .of_eq rfl rfl rfl rfl rfl rfl rfl rfl rfl id

/-! ### Every command -/

/-- Every command is a run of moves. -/
theorem exec_moves (c : Instr) (s : State) : ∃ t, exec c s = .next t ∧ Moves s t := by
  cases c with
  | writeArrival q =>
    show ∃ t, execWriteArrival q s = .next t ∧ Moves s t
    unfold execWriteArrival
    split
    · exact ⟨_, rfl, Quiet.moves (.of_eq rfl rfl rfl rfl rfl rfl rfl rfl rfl id)⟩
    · exact ⟨_, rfl, moves_takeWrite s q⟩
  | readArrival k =>
    show ∃ t, execReadArrival k s = .next t ∧ Moves s t
    unfold execReadArrival
    split
    · exact ⟨_, rfl, Quiet.moves (.of_eq rfl rfl rfl rfl rfl rfl rfl rfl rfl id)⟩
    · exact ⟨_, rfl, moves_takeRead s k⟩
  | grant => exact ⟨_, rfl, moves_grant s⟩
  | okayResponse tag data => exact ⟨_, rfl, moves_okay s tag data⟩
  | busyResponse tag => exact ⟨_, rfl, moves_busy s tag⟩
  | errorResponse tag kind => exact ⟨_, rfl, moves_error s tag⟩
  | backoffExpiry owner => exact ⟨_, rfl, moves_endBackoff s owner⟩
  | fillTimerExpiry r => exact ⟨_, rfl, moves_expireFill s r⟩
  | discardTimerExpiry k => exact ⟨_, rfl, moves_expireRead s k⟩
  | lrstnAsserted =>
    show ∃ t, execLrstnAsserted s = .next t ∧ Moves s t
    unfold execLrstnAsserted
    split
    · exact ⟨_, rfl, .refl⟩
    · exact ⟨_, rfl, (moves_linkReset s _).trans (Quiet.lineAsserted _ _).moves⟩
  | lrstnNegated => exact ⟨_, rfl, Quiet.moves (.of_eq rfl rfl rfl rfl rfl rfl rfl rfl rfl id)⟩
  | porstnAsserted => exact ⟨_, rfl, Quiet.moves (.of_eq rfl rfl rfl rfl rfl rfl rfl rfl rfl id)⟩
  | porstnNegated ma => exact ⟨_, rfl, (RingMove.poweredOn s ma).moves⟩
  | enable ring => exact moves_named _ (moves_commandEnable s ring)
  | stop ring => exact moves_named _ (moves_commandStop s ring)
  | purge ring => exact moves_named _ (moves_commandPurge s ring)
  | flushReads ring => exact moves_named _ (moves_commandFlushReads s ring)
  | clearCounters ring => exact moves_named _ (moves_commandClearCounters s ring)
  | noticeEnable ring => exact moves_named _ (moves_commandNoticeEnable s ring)
  | noticeDisable ring => exact moves_named _ (moves_commandNoticeDisable s ring)
  | datapathReset ring => exact moves_named _ (moves_commandDatapathReset s ring)
  | unknownCommand code ring => exact moves_named _ (moves_takeCommand s code ring)
  | deviceAddress a read => exact ⟨_, rfl, (quiet_addressByte s a read).moves⟩
  | offset high low => exact ⟨_, rfl, (quiet_offsetBytes s high low).moves⟩
  | busStop kind => exact ⟨_, rfl, Quiet.moves (.of_eq rfl rfl rfl rfl rfl rfl rfl rfl rfl id)⟩
  | registerWrite b => exact ⟨_, rfl, moves_dataByte s b⟩
  | eventRegisterWrite half b => exact moves_named _ (Quiet.clearFlags s half b).moves
  | maskWrite half b => exact moves_named _ (Quiet.writeMask s half b).moves
  | inspectionSelect b => exact moves_named _ (Quiet.inspect s b).moves
  | snapshotRead a => exact ⟨_, rfl, (quiet_readByte s a).moves⟩
  | statusByteRead a =>
    show ∃ t, execStatusByteRead a s = .next t ∧ Moves s t
    unfold execStatusByteRead
    split
    · exact ⟨_, rfl, Quiet.moves (.of_eq rfl rfl rfl rfl rfl rfl rfl rfl rfl id)⟩
    · split
      · exact ⟨_, rfl, Quiet.moves (.of_eq rfl rfl rfl rfl rfl rfl rfl rfl rfl id)⟩
      · exact ⟨_, rfl, ((Quiet.readField s _ _).trans (Quiet.pastRead _ _ _)).moves⟩
  | tick =>
    show ∃ t, execTick s = .next t ∧ Moves s t
    unfold execTick
    split
    · exact ⟨_, rfl, .refl⟩
    · exact ⟨_, rfl, (RingMove.ticked s).moves⟩

/-- A step is the taking of the front command off the queue of commands, and its moves. -/
theorem step_moves {s t : State} (h : step s = .next t) : Moves s t := by
  unfold step at h
  split at h
  · cases h
    exact .refl
  · next c rest _ =>
    obtain ⟨u, hu, moves⟩ := exec_moves c { s with pending := rest }
    rw [hu] at h
    cases h
    have taken : Quiet s { s with pending := rest } := .of_eq rfl rfl rfl rfl rfl rfl rfl rfl rfl id
    exact taken.moves.trans moves

end Sys2Proof.Whole
end

section
/-! The moves of the rings as the queue, the table, the notice FIFO and the slots see them: changes on the rings'
side, and entries that join and leave. -/

namespace Sys2Proof.Whole

open Sys2Proof.Machine Sys2Proof.Safety Sys2Proof.Laws

/-! ### Changes on the rings' side -/

/-- The notice queue has taken notices that were never issued, up to the limit of the FIFO (R135). -/
def NoticesGrown (n m : NoticeUnit) : Prop :=
  ∃ q, (∀ x ∈ q, x.slot = none) ∧ (n.fifo.length ≤ 16 → (n.fifo ++ q).length ≤ 16) ∧
    m = { n with fifo := n.fifo ++ q }

theorem NoticesGrown.refl (n : NoticeUnit) : NoticesGrown n n :=
  ⟨[], nofun, fun h => by simpa using h, by simp⟩

theorem NoticesGrown.trans {n m k : NoticeUnit} (h : NoticesGrown n m) (g : NoticesGrown m k) :
    NoticesGrown n k := by
  obtain ⟨q, unissued, room, rfl⟩ := h
  obtain ⟨p, unissued', room', rfl⟩ := g
  refine ⟨q ++ p, fun x hx => ?_, fun h => ?_, by simp⟩
  · exact (List.mem_append.1 hx).elim (unissued x) (unissued' x)
  · simpa using room' (room h)

/-- The two states agree on the queue, the table, the slots and the notice queue but for notices that have joined,
and a decode entry is kept or becomes absent. -/
structure RingSide (s t : State) : Prop where
  pwq : t.pwq = s.pwq
  headIssue : t.headIssue = s.headIssue
  reads : t.reads = s.reads
  writeSlot : t.link.writeSlot = s.link.writeSlot
  readA : t.link.readA = s.link.readA
  readB : t.link.readB = s.link.readB
  notices : NoticesGrown s.notices t.notices
  window : ∀ r, t.window r = none ∨ t.window r = s.window r
  offset : s.port.offset.toNat ≤ 0x03FF → t.port.offset.toNat ≤ 0x03FF

theorem RingSide.refl (s : State) : RingSide s s :=
  ⟨rfl, rfl, rfl, rfl, rfl, rfl, .refl _, fun _ => .inr rfl, id⟩

theorem RingSide.trans {s t u : State} (h : RingSide s t) (k : RingSide t u) : RingSide s u where
  pwq := k.pwq.trans h.pwq
  headIssue := k.headIssue.trans h.headIssue
  reads := k.reads.trans h.reads
  writeSlot := k.writeSlot.trans h.writeSlot
  readA := k.readA.trans h.readA
  readB := k.readB.trans h.readB
  notices := h.notices.trans k.notices
  window r := (k.window r).elim .inl fun e => e ▸ h.window r
  offset o := k.offset (h.offset o)

theorem Quiet.ringSide {s t : State} (h : Quiet s t) : RingSide s t where
  pwq := h.pwq
  headIssue := h.headIssue
  reads := h.reads
  writeSlot := h.writeSlot
  readA := h.readA
  readB := h.readB
  notices := h.notices ▸ .refl _
  window r := .inr (by simp only [State.window, h.decode])
  offset := h.offset

theorem RingSide.setRing (s : State) (r : RingNo) (x : RingState) : RingSide s (s.setRing r x) :=
  ⟨rfl, rfl, rfl, rfl, rfl, rfl, .refl _, fun _ => .inr rfl, id⟩

theorem RingSide.setRecord (s : State) (r : RingNo) (i : SectorNo) (x : SectorRecord) :
    RingSide s (s.setRecord r i x) :=
  ⟨rfl, rfl, rfl, rfl, rfl, rfl, .refl _, fun _ => .inr rfl, id⟩

theorem RingSide.pushNotice (s : State) (n : Notice) : RingSide s (s.pushNotice n) := by
  obtain ⟨room, h⟩ | ⟨-, h⟩ := pushNotice_cases s n <;> rw [h]
  · refine ⟨rfl, rfl, rfl, rfl, rfl, rfl, ⟨_, ?_, fun _ => ?_, rfl⟩, fun _ => .inr rfl, id⟩
    · simp
    · simpa using room
  · exact ((RingSide.setRing _ _ _).trans (Quiet.setCounters _ _).ringSide).trans (Quiet.post _ _).ringSide

theorem RingSide.generate (s : State) (n : Notice) : RingSide s (s.generate n) := by
  obtain ⟨-, h⟩ | ⟨-, h⟩ := generate_cases s n <;> rw [h]
  · exact .refl s
  · exact (RingSide.setRing _ _ _).trans (RingSide.pushNotice _ _)

/-- A decode entry that has been set, read back. -/
theorem getElem_set_fin {α : Type} (v : Vector α 8) (r r' : RingNo) (x : α) :
    (v.set r x)[r'] = if r' = r then x else v[r'] := by
  by_cases h : r' = r
  · subst h
    simp
  · have : r.val ≠ r'.val := fun e => h (Fin.ext e.symm)
    simp [h, Vector.getElem_set_ne, this]

theorem RingSide.turnOff (s : State) (r : RingNo) (t : NoticeType) : RingSide s (s.turnOff r t) := by
  refine .trans (t := { s.setRing r { s.ring r with lifecycle := .off } with decode := s.decode.set r none })
    ⟨rfl, rfl, rfl, rfl, rfl, rfl, .refl _, fun r' => ?_, id⟩ (.generate _ _)
  show (s.decode.set r none)[r'] = none ∨ (s.decode.set r none)[r'] = s.decode[r']
  rw [getElem_set_fin]
  split
  · exact .inl rfl
  · exact .inr rfl

theorem RingSide.stopTest (s : State) (r : RingNo) : RingSide s (s.stopTest r) := by
  obtain ⟨-, -, -, h⟩ | ⟨-, h⟩ := stopTest_cases s r <;> rw [h]
  · exact .turnOff s r _
  · exact .refl s

theorem RingSide.purgeTest (s : State) (r : RingNo) : RingSide s (s.purgeTest r) := by
  obtain ⟨-, -, h⟩ | ⟨-, h⟩ := purgeTest_cases s r <;> rw [h]
  · exact .turnOff s r _
  · exact .refl s

theorem RingSide.becomeReady (s : State) (r : RingNo) (i : SectorNo) : RingSide s (s.becomeReady r i) := by
  obtain ⟨t, rfl, ⟨-, h⟩ | ⟨-, h⟩⟩ := becomeReady_cases s r i <;> rw [h]
  · exact ((RingSide.setRecord _ _ _ _).trans (.setRing _ _ _)).trans (.generate _ _)
  · exact (RingSide.setRecord _ _ _ _).trans (.setRing _ _ _)

theorem RingSide.settle (s : State) (r : RingNo) (i : SectorNo) : RingSide s (s.settle r i) := by
  obtain ⟨-, -, h⟩ | ⟨-, -, h⟩ | ⟨-, -, h⟩ | ⟨-, h⟩ := settle_cases s r i <;> rw [h]
  · exact .becomeReady s r i
  · exact (RingSide.setRecord _ _ _ _).trans (.stopTest _ _)
  · exact (RingSide.setRecord _ _ _ _).trans (.purgeTest _ _)
  · exact .refl s

theorem RingSide.closeOpen (s : State) (r : RingNo) (mark : SectorFlags → SectorFlags) :
    RingSide s (s.closeOpen r mark) :=
  ((RingSide.setRecord _ _ _ _).trans (.setRing _ _ _)).trans (.settle _ _ _)

theorem RingSide.closeCurrent (s : State) (r : RingNo) (mark : SectorFlags → SectorFlags) :
    RingSide s (s.closeCurrent r mark) := by
  unfold State.closeCurrent
  split
  · exact (RingSide.closeOpen s r mark).trans (.stopTest _ _)
  · exact (RingSide.setRing _ _ _).trans (.stopTest _ _)
  · exact .refl s

theorem RingSide.shadowWrite (s : State) (r : RingNo) (w : Nat) (q : WriteRequest) :
    RingSide s (s.shadowWrite r w q) := by
  unfold State.shadowWrite
  split
  · exact (RingSide.setRing _ _ _).trans (Quiet.answerAccept _).ringSide
  · exact ((RingSide.setRing _ _ _).trans (.stopTest _ _)).trans (Quiet.answerAccept _).ringSide

theorem RingSide.leaveSector (s : State) (r : RingNo) (i : SectorNo) (lost : Bool) :
    RingSide s (s.leaveSector r i lost) :=
  (RingSide.setRecord _ _ _ _).trans (.settle _ _ _)

theorem RingSide.reportLost (s : State) (lost : Bool) : RingSide s (s.reportLost lost) := by
  unfold State.reportLost
  split
  · exact ((Quiet.setCounters _ _).trans (Quiet.post _ _)).ringSide
  · exact .refl s

/-- A departure is the removal of the head, and effects on the rings' side (R86). -/
theorem RingSide.popHead {s : State} (lost : Bool) (h : s.pwq ≠ []) : RingSide s.dropHead (s.popHead lost) := by
  obtain ⟨e, q, hq⟩ := List.exists_cons_of_ne_nil h
  rw [popHead_cons s lost hq]
  split
  · exact .reportLost _ _
  all_goals exact (RingSide.reportLost _ _).trans (.leaveSector _ _ _ _)

/-! ### The parts of a ring's move -/

/-- The parts of the moves of the rings. -/
inductive Part : State → State → Prop where
  | ringSide {s t : State} (h : RingSide s t) : Part s t
  | joined (s : State) (e : QueueEntry) (room : s.pwq.length < 32) : Part s (s.enqueue e)
  | readsFreed (s : State) (p : ReadEntry → Bool) : Part s (s.freeReads p)
  | headEnded (s : State) (slot : s.link.writeSlot = .occupied .queueHead) (head : s.pwq ≠ []) :
      Part s (s.freeSlot 0).dropHead
  | slotLost (s : State) (slot : s.link.writeSlot = .occupied .queueHead) (none : s.pwq = []) :
      Part s (s.freeSlot 0)
  | headRetired (s : State) (waits : s.headIssue ≠ .inFlight) : Part s s.dropHead
  | poweredOn (s : State) (ma : BitVec 2) : Part s (s.powerOn ma)
  | activated (s : State) (r : RingNo) (valid : (s.cfg r).valid = true) (apart : s.enableOverlaps r = false) :
      Part s (s.activate r)
  | datapathReset (s : State) : Part s s.resetDatapath
  | ticked (s : State) : Part s s.tick

abbrev Parts : State → State → Prop := Relation.ReflTransGen Part

theorem Part.parts {s t : State} (h : Part s t) : Parts s t := .single h

theorem RingSide.parts {s t : State} (h : RingSide s t) : Parts s t := (Part.ringSide h).parts

theorem parts_retire (s : State) : Parts s s.retire :=
  retire_induct .refl fun t ih purged waits =>
    (ih.trans (Part.headRetired t waits).parts).trans (RingSide.popHead false (pwq_ne_nil_of_headIsPurged purged)).parts

theorem parts_depart {s : State} (lost : Bool) (slot : s.link.writeSlot = .occupied .queueHead) :
    Parts s ((s.freeSlot 0).depart lost) := by
  refine .trans ?_ (parts_retire _)
  by_cases h : s.pwq = []
  · rw [popHead_nil _ _ (show (s.freeSlot 0).pwq = [] from h)]
    exact (Part.slotLost s slot h).parts
  · exact (Part.headEnded s slot h).parts.trans (RingSide.popHead (s := s.freeSlot 0) lost h).parts

theorem Parts.enqueue {s t : State} (h : Parts s t) (room : t.pwq.length < 32) (e : QueueEntry) :
    Parts s (t.enqueue e) :=
  h.trans (Part.joined t e room).parts

theorem parts_storeWrite {s : State} (r : RingNo) (w : Nat) (q : WriteRequest) (room : s.pwq.length < 32) :
    Parts s (s.storeWrite r w q) := by
  unfold State.storeWrite
  extract_lets i x
  split
  · refine .trans ?_ (Quiet.answerAccept _).ringSide.parts
    refine Parts.enqueue (RingSide.parts ?_) ?_ _
    · exact (RingSide.setRecord _ _ _ _).trans (.setRing _ _ _)
    · exact room
  · refine .trans ?_ ((RingSide.stopTest _ _).trans (Quiet.answerAccept _).ringSide).parts
    refine Parts.enqueue (RingSide.parts ?_) ?_ _
    · exact (RingSide.setRecord _ _ _ _).trans (.setRing _ _ _)
    · exact room

theorem parts_release {s : State} {r : RingNo} {i : SectorNo} (q : WriteRequest)
    (ready : (s.record r i).state = .ready) (room : s.pwq.length < 32) : Parts s (s.release r i q) := by
  have space : s.hasRoom = true := decide_eq_true room
  simp only [State.release, if_pos ready, if_pos space]
  refine .trans ?_ (Quiet.answerAccept _).ringSide.parts
  refine Parts.enqueue ?_ ?_ _
  · exact (RingSide.setRecord _ _ _ _).parts.trans (Part.readsFreed _ _).parts
  · exact room

/-- Every move of the rings is made of parts. -/
theorem RingMove.parts {s t : State} (h : RingMove s t) : Parts s t := by
  cases h with
  | passJoined e kind room => exact (Part.joined s e room).parts
  | messageStored r w q opened room => exact parts_storeWrite r w q room
  | messageOpened r w q window notPurging notStopping idle free room =>
    exact ((RingSide.setRecord _ _ _ _).trans (.setRing _ _ _)).parts.trans (parts_storeWrite r w q room)
  | shadowBegun r w q => exact ((RingSide.setRing _ _ _).trans (.shadowWrite _ _ _ _)).parts
  | shadowContinued r w q => exact (RingSide.shadowWrite _ _ _ _).parts
  | released r i q ready room => exact parts_release q ready room
  | headDeparted lost slot => exact parts_depart lost slot
  | messageClosed r mark => exact (RingSide.closeCurrent _ _ _).parts
  | poweredOn ma => exact (Part.poweredOn s ma).parts
  | activated r off valid apart => exact (Part.activated s r valid apart).parts
  | stopped r active => exact ((RingSide.setRing _ _ _).trans (.stopTest _ _)).parts
  | purged r serving =>
    have emptied : RingSide s { s with
        rings := s.rings.set r { s.ring r with lifecycle := .purging, fillState := .idle, fillTimer := none }
        sectors := s.sectors.set r (s.sectors[r].map SectorRecord.purge) } :=
      ⟨rfl, rfl, rfl, rfl, rfl, rfl, .refl _, fun _ => .inr rfl, id⟩
    exact ((emptied.parts.trans (Part.readsFreed _ _).parts).trans (RingSide.purgeTest _ _).parts).trans
      (parts_retire _)
  | datapathReset => exact (Part.datapathReset s).parts
  | ringConfigured r c off =>
    exact RingSide.parts ⟨rfl, rfl, rfl, rfl, rfl, rfl, .refl _, fun _ => .inr rfl, id⟩
  | ticked => exact (Part.ticked s).parts

theorem Parts.keep {P : State → Prop} (h : ∀ s t, P s → Part s t → P t) {s t : State} (p : P s) (m : Parts s t) :
    P t := by
  induction m with
  | refl => exact p
  | tail _ m ih => exact h _ _ ih m

/-- What every move of the queues and every part of a ring's move keeps, every step keeps. -/
theorem kept_of_parts {P : State → Prop} (queue : ∀ s t, P s → QueueMove s t → P t)
    (part : ∀ s t, P s → Part s t → P t) (s t : State) (h : P s) (hstep : step s = .next t) : P t := by
  refine Moves.keep (fun s t p m => ?_) h (step_moves hstep)
  obtain m | m := m
  · exact queue s t p m
  · exact Parts.keep part p m.parts

end Sys2Proof.Whole
end

section
/-! What the moves of the queue, the reads, the notices and the slots change, and the laws over them: their limits,
their slots, the waiting of reads, the indices of the notice queue and the ranges of decode. -/

namespace Sys2Proof.Whole

open Sys2Proof.Machine Sys2Proof.Safety Sys2Proof.Laws

/-! ### The fields that a grant or a response moves -/

section
variable (s : State)

@[simp] theorem issueHead_pwq : s.issueHead.pwq = s.pwq := by unfold State.issueHead; split <;> rfl
@[simp] theorem issueHead_reads : s.issueHead.reads = s.reads := by unfold State.issueHead; split <;> rfl
@[simp] theorem issueHead_notices : s.issueHead.notices = s.notices := by unfold State.issueHead; split <;> rfl
@[simp] theorem issueHead_port : s.issueHead.port = s.port := by unfold State.issueHead; split <;> rfl
@[simp] theorem issueHead_decode : s.issueHead.decode = s.decode := by unfold State.issueHead; split <;> rfl

@[simp] theorem issueRead_pwq (e : ReadEntry) : (s.issueRead e).pwq = s.pwq := by
  unfold State.issueRead; split <;> rfl
@[simp] theorem issueRead_headIssue (e : ReadEntry) : (s.issueRead e).headIssue = s.headIssue := by
  unfold State.issueRead; split <;> rfl
@[simp] theorem issueRead_reads (e : ReadEntry) : (s.issueRead e).reads =
    s.reads.map fun x => if x.request = e.request then { x with phase := .issued false } else x := by
  unfold State.issueRead; split <;> rfl
@[simp] theorem issueRead_notices (e : ReadEntry) : (s.issueRead e).notices = s.notices := by
  unfold State.issueRead; split <;> rfl
@[simp] theorem issueRead_port (e : ReadEntry) : (s.issueRead e).port = s.port := by
  unfold State.issueRead; split <;> rfl
@[simp] theorem issueRead_decode (e : ReadEntry) : (s.issueRead e).decode = s.decode := by
  unfold State.issueRead; split <;> rfl
@[simp] theorem issueRead_writeSlot (e : ReadEntry) : (s.issueRead e).link.writeSlot = s.link.writeSlot := by
  unfold State.issueRead; split <;> rfl

@[simp] theorem issueNotice_pwq : s.issueNotice.pwq = s.pwq := by unfold State.issueNotice; split <;> rfl
@[simp] theorem issueNotice_headIssue : s.issueNotice.headIssue = s.headIssue := by
  unfold State.issueNotice; split <;> rfl
@[simp] theorem issueNotice_reads : s.issueNotice.reads = s.reads := by unfold State.issueNotice; split <;> rfl
@[simp] theorem issueNotice_port : s.issueNotice.port = s.port := by unfold State.issueNotice; split <;> rfl
@[simp] theorem issueNotice_decode : s.issueNotice.decode = s.decode := by unfold State.issueNotice; split <;> rfl
@[simp] theorem issueNotice_readA : s.issueNotice.link.readA = s.link.readA := by
  unfold State.issueNotice; split <;> rfl
@[simp] theorem issueNotice_readB : s.issueNotice.link.readB = s.link.readB := by
  unfold State.issueNotice; split <;> rfl
@[simp] theorem issueNotice_length : s.issueNotice.notices.fifo.length = s.notices.fifo.length := by
  unfold State.issueNotice
  split
  · rfl
  · next h => simp [h]

@[simp] theorem raiseHeadAttempts_headIssue : s.raiseHeadAttempts.headIssue = s.headIssue := by
  unfold State.raiseHeadAttempts; split <;> rfl
@[simp] theorem raiseHeadAttempts_reads : s.raiseHeadAttempts.reads = s.reads := by
  unfold State.raiseHeadAttempts; split <;> rfl
@[simp] theorem raiseHeadAttempts_notices : s.raiseHeadAttempts.notices = s.notices := by
  unfold State.raiseHeadAttempts; split <;> rfl
@[simp] theorem raiseHeadAttempts_port : s.raiseHeadAttempts.port = s.port := by
  unfold State.raiseHeadAttempts; split <;> rfl
@[simp] theorem raiseHeadAttempts_decode : s.raiseHeadAttempts.decode = s.decode := by
  unfold State.raiseHeadAttempts; split <;> rfl

/-- The attempts of the head are counted, and nothing that names an entry changes (R121). -/
@[simp] theorem raiseHeadAttempts_entries :
    s.raiseHeadAttempts.pwq.map (fun e => (e.address, e.words, e.kind)) =
      s.pwq.map fun e => (e.address, e.words, e.kind) := by
  unfold State.raiseHeadAttempts
  split <;> simp [*]

end

/-- The head is offered where it waits with the write slot FREE and is not to be retired (R115). -/
theorem queueEligible_iff (s : State) : s.queueEligible = true ↔
    s.pwq ≠ [] ∧ s.headIssue = .waiting ∧ s.link.writeSlot = .free ∧ s.headIsPurged = false := by
  simp [State.queueEligible, and_assoc]

theorem eligible_iff (e : ReadEntry) : e.eligible = true ↔ e.phase = .queued none ∧ e.counted = [] := by
  simp [ReadEntry.eligible]

/-- The entry that is offered is in the table and eligible (R102). -/
theorem offeredRead_some {s : State} {e : ReadEntry} (h : s.offeredRead = some e) :
    e ∈ s.reads ∧ e.phase = .queued none ∧ e.counted = [] :=
  ⟨List.mem_of_find?_eq_some h, (eligible_iff e).1 (List.find?_some h)⟩

/-- The notice at the head is offered where it waits out no backoff, the write slot is FREE, and the queue is enabled
with a slot for it (R115, R137). -/
theorem noticeEligible_cons {s : State} {n : PendingNotice} {q : List PendingNotice} (h : s.notices.fifo = n :: q) :
    s.noticeEligible = true ↔ n.backoff = none ∧ s.link.writeSlot = .free ∧ s.notices.enabled = true ∧
      (n.slot.isSome = true ∨ (s.notices.w - s.notices.r).toNat < s.notices.slots) := by
  simp [State.noticeEligible, h, NoticeUnit.hasFreeSlot, and_assoc]

/-! ### What names an entry of the table -/

theorem finish_request {f : ReadEntry → ReadEntry} (hf : ∀ e, (f e).request = e.request) (q : List QueueEntry)
    (e : ReadEntry) : (e.finish q f).request = e.request := by
  unfold ReadEntry.finish
  split <;> first | rfl | exact hf e

/-- The end of a fetch leaves no entry in flight. -/
theorem finish_ended {f : ReadEntry → ReadEntry} (hf : ∀ e, (f e).inFlight = false) (q : List QueueEntry)
    (e : ReadEntry) : (e.finish q f).inFlight = false := by
  unfold ReadEntry.finish
  split
  · rfl
  · exact hf e
  · next h => simp [ReadEntry.inFlight, h]
  · next h => simp [ReadEntry.inFlight, h]

@[simp] theorem endBackoff_request (e : ReadEntry) : e.endBackoff.request = e.request := by
  unfold ReadEntry.endBackoff; split <;> rfl

@[simp] theorem endBackoff_inFlight (e : ReadEntry) : e.endBackoff.inFlight = e.inFlight := by
  unfold ReadEntry.endBackoff
  split
  · next h => simp [ReadEntry.inFlight, h]
  · rfl

@[simp] theorem tick_inFlight (e : ReadEntry) : e.tick.inFlight = e.inFlight := by
  cases h : e.phase <;> simp [ReadEntry.inFlight, ReadEntry.tick, ReadPhase.tick, h]

@[simp] theorem headLeft_inFlight (e : ReadEntry) : e.headLeft.inFlight = e.inFlight := rfl

@[simp] theorem overlap_inFlight (e : ReadEntry) (line : Addr) (q : List QueueEntry) :
    (e.overlap line q).inFlight = e.inFlight := by
  obtain ⟨-, h⟩ | ⟨-, -, h⟩ | ⟨-, ⟨b, hb⟩, h⟩ | ⟨-, ⟨x, n, hx⟩, h⟩ := overlap_cases e line q <;> rw [h]
  · rfl
  · simp [ReadEntry.inFlight, hb]
  · simp [ReadEntry.inFlight, ReadEntry.requeue, hx]

/-- The reads that the table holds. -/
def requests (l : List ReadEntry) : List ReadRequest := l.map ReadEntry.request

theorem requests_map {f : ReadEntry → ReadEntry} (hf : ∀ e, (f e).request = e.request) (l : List ReadEntry) :
    requests (l.map f) = requests l := by
  simp [requests, hf]

theorem requests_update {f : ReadEntry → ReadEntry} (hf : ∀ e, (f e).request = e.request) (k : ReadRequest)
    (l : List ReadEntry) : requests (l.map fun e => if e.request = k then f e else e) = requests l :=
  requests_map (fun e => by split <;> simp [hf]) l

theorem requests_filter (p : ReadEntry → Bool) (l : List ReadEntry) :
    (requests (l.filter p)).Sublist (requests l) :=
  List.Sublist.map _ List.filter_sublist

/-! ### The limits of the collections -/

/-- No collection grows, and the offset stays in the window. -/
theorem bounded_of_le {s t : State} (h : Bounded s) (queue : t.pwq.length ≤ s.pwq.length)
    (reads : (requests t.reads).Sublist (requests s.reads)) (fifo : t.notices.fifo.length ≤ s.notices.fifo.length)
    (offset : t.port.offset.toNat ≤ 0x03FF) : Bounded t where
  queue := queue.trans h.queue
  reads := by simpa [requests] using reads.length_le.trans (by simpa [requests] using h.reads)
  share i := by
    have le := reads.countP_le (p := fun k : ReadRequest => decide (k.initiator = i))
    simp only [requests, List.countP_map, Function.comp_def] at le
    exact le.trans (h.share i)
  distinct := h.distinct.sublist reads
  fifo := fifo.trans h.fifo
  offset := offset

theorem bounded_queueMove {s t : State} (h : Bounded s) (m : QueueMove s t) : Bounded t := by
  have same : (requests s.reads).Sublist (requests s.reads) := .refl _
  cases m with
  | quiet q =>
    exact bounded_of_le h (by rw [q.pwq]) (by rw [q.reads]) (by rw [q.notices]) (q.offset h.offset)
  | indexReturned | headBackoffEnded | noticesDisabled | noticesConfigured | slotFreed | headWaits =>
    exact bounded_of_le h le_rfl same le_rfl h.offset
  | readRemoved k => exact bounded_of_le h le_rfl (requests_filter _ _) le_rfl h.offset
  | readsFreed p => exact bounded_of_le h le_rfl (requests_filter _ _) le_rfl h.offset
  | readCreated k tag place fresh =>
    obtain ⟨room, share⟩ := (Consumer.readPlace_iff s k).1 place
    refine ⟨h.queue, ?_, fun i => ?_, ?_, h.fifo, h.offset⟩
    · simpa using Nat.succ_le_of_lt room
    · by_cases own : k.initiator = i
      · subst own
        simpa using Nat.succ_le_of_lt share
      · simpa [own] using h.share i
    · rw [List.map_append, List.nodup_append]
      refine ⟨h.distinct, by simp, fun a ha b hb => ?_⟩
      obtain ⟨e, he, rfl⟩ := List.mem_map.1 ha
      simp only [List.map_cons, List.map_nil, List.mem_singleton] at hb
      exact hb ▸ fresh e he
  | headIssued => exact bounded_of_le h (by simp) (by simp) (by simp) (by simpa using h.offset)
  | readIssued e =>
    refine bounded_of_le h (by simp) ?_ (by simp) (by simpa using h.offset)
    rw [issueRead_reads, requests_update (f := fun x => { x with phase := .issued false }) fun _ => rfl]
  | noticeIssued => exact bounded_of_le h (by simp) (by simp) (by simp) (by simpa using h.offset)
  | headRaised =>
    have same := congrArg List.length (raiseHeadAttempts_entries s)
    rw [List.length_map, List.length_map] at same
    exact bounded_of_le h (le_of_eq same) (by simp) (by simp) (by simpa using h.offset)
  | noticeLeft => exact bounded_of_le h le_rfl same (by simp [State.noticeLeaves]) h.offset
  | noticeHeadChanged n m rest hfifo => exact bounded_of_le h le_rfl same (by simp [hfifo]) h.offset
  | fetchEnded tag k f hold answers =>
    refine bounded_of_le h le_rfl ?_ le_rfl h.offset
    show (requests (s.reads.map _)).Sublist _
    rw [requests_update (finish_request answers.request _)]
  | readBackoffEnded k =>
    refine bounded_of_le h le_rfl ?_ le_rfl h.offset
    show (requests (s.reads.map _)).Sublist _
    rw [requests_update endBackoff_request]
  | noticesEnabled => exact bounded_of_le h le_rfl same (by simp [NoticeUnit.enable]) h.offset

theorem bounded_part {s t : State} (h : Bounded s) (m : Part s t) : Bounded t := by
  cases m with
  | ringSide r =>
    obtain ⟨q, -, room, grown⟩ := r.notices
    have kept : Bounded { t with notices := s.notices } :=
      bounded_of_le h (le_of_eq (congrArg _ r.pwq)) (by rw [show State.reads _ = s.reads from r.reads]) le_rfl
        (r.offset h.offset)
    exact ⟨kept.queue, kept.reads, kept.share, kept.distinct, by rw [grown]; exact room h.fifo, kept.offset⟩
  | joined e room =>
    have reads : requests (s.enqueue e).reads = requests s.reads :=
      requests_map (fun x => (overlap_request x _ _).1) _
    have kept : Bounded { s.enqueue e with pwq := s.pwq } := bounded_of_le h le_rfl (by rw [reads]) le_rfl h.offset
    exact ⟨by simpa using Nat.succ_le_of_lt room, kept.reads, kept.share, kept.distinct, kept.fifo, kept.offset⟩
  | readsFreed p => exact bounded_of_le h le_rfl (requests_filter _ _) le_rfl h.offset
  | headEnded | headRetired =>
    refine bounded_of_le h (by simp) ?_ le_rfl h.offset
    show (requests (s.reads.map ReadEntry.headLeft)).Sublist _
    rw [requests_map (f := ReadEntry.headLeft) fun _ => rfl]
  | slotLost => exact bounded_of_le h le_rfl (.refl _) le_rfl h.offset
  | poweredOn ma => exact ⟨Nat.zero_le _, Nat.zero_le _, fun _ => Nat.zero_le _, List.nodup_nil, Nat.zero_le _, Nat.zero_le _⟩
  | activated r => exact bounded_of_le h le_rfl (requests_filter _ _) le_rfl h.offset
  | datapathReset => exact bounded_of_le h (Nat.zero_le _) (List.nil_sublist _) (Nat.zero_le _) h.offset
  | ticked =>
    refine bounded_of_le h le_rfl ?_ (by simp [State.tick]) h.offset
    show (requests (s.reads.map ReadEntry.tick)).Sublist _
    rw [requests_map (f := ReadEntry.tick) fun _ => rfl]

/-- Settles O50: no move grows a collection but the joining of a write, a read or a notice, each of which first finds
room. -/
theorem boundedKept : Obligations.BoundedKept :=
  kept_of_parts (fun _ _ => bounded_queueMove) fun _ _ => bounded_part

end Sys2Proof.Whole
end

section
/-! The slots of the memory link and their owners: what the law says of the write slot, and of the two read slots
beside the entries that are in flight. -/

namespace Sys2Proof.Whole

open Sys2Proof.Machine Sys2Proof.Safety Sys2Proof.Laws

/-- The read slots beside the table: a slot that is OCCUPIED holds an entry in flight, each entry in flight has one
slot, and no two entries are for one read (R93, R94, R114). -/
structure ReadSlotsAgree (l : List ReadEntry) (a b : ReadSlot) : Prop where
  readA : ∀ k, a = .occupied k → ∃ e ∈ l, e.request = k ∧ e.inFlight = true
  readB : ∀ k, b = .occupied k → ∃ e ∈ l, e.request = k ∧ e.inFlight = true
  apart : ∀ k, a = .occupied k → b ≠ .occupied k
  held : ∀ e ∈ l, e.inFlight = true → a = .occupied e.request ∨ b = .occupied e.request
  distinct : (requests l).Nodup

/-- The write slot is the queue head's exactly while the head is IN_FLIGHT, and then there is a head (R83, R114). -/
structure WriteSlotAgrees (slot : WriteSlot) (issue : IssueState) (q : List QueueEntry) : Prop where
  head : slot = .occupied .queueHead ↔ issue = .inFlight
  nonempty : issue = .inFlight → q ≠ []

theorem slotsAgree_iff (s : State) : SlotsAgree s ↔
    WriteSlotAgrees s.link.writeSlot s.headIssue s.pwq ∧ ReadSlotsAgree s.reads s.link.readA s.link.readB :=
  ⟨fun h => ⟨⟨h.head, h.nonempty⟩, ⟨h.readA, h.readB, h.apart, h.held, h.distinct⟩⟩,
    fun ⟨w, r⟩ => ⟨w.head, w.nonempty, r.readA, r.readB, r.apart, r.held, r.distinct⟩⟩

namespace ReadSlotsAgree

variable {l : List ReadEntry} {a b : ReadSlot}

theorem swap (h : ReadSlotsAgree l a b) : ReadSlotsAgree l b a :=
  ⟨h.readB, h.readA, fun k hb ha => h.apart k ha hb, fun e he f => (h.held e he f).symm, h.distinct⟩

/-- Only one entry is for a read. -/
theorem entry_eq (h : ReadSlotsAgree l a b) {e e' : ReadEntry} (he : e ∈ l) (he' : e' ∈ l)
    (same : e'.request = e.request) : e' = e :=
  List.inj_on_of_nodup_map h.distinct he' he same

/-- A change of entries that keeps what names them and whether they are in flight. -/
theorem map (h : ReadSlotsAgree l a b) {f : ReadEntry → ReadEntry} (request : ∀ e, (f e).request = e.request)
    (inFlight : ∀ e, (f e).inFlight = e.inFlight) : ReadSlotsAgree (l.map f) a b where
  readA k hk := by
    obtain ⟨e, he, hr, hf⟩ := h.readA k hk
    exact ⟨f e, List.mem_map_of_mem he, (request e).trans hr, (inFlight e).trans hf⟩
  readB k hk := by
    obtain ⟨e, he, hr, hf⟩ := h.readB k hk
    exact ⟨f e, List.mem_map_of_mem he, (request e).trans hr, (inFlight e).trans hf⟩
  apart := h.apart
  held e' he' hf := by
    obtain ⟨e, he, rfl⟩ := List.mem_map.1 he'
    rw [request e]
    exact h.held e he (by rw [← inFlight e]; exact hf)
  distinct := by rw [requests_map request]; exact h.distinct

theorem update (h : ReadSlotsAgree l a b) (k : ReadRequest) {f : ReadEntry → ReadEntry}
    (request : ∀ e, (f e).request = e.request) (inFlight : ∀ e, (f e).inFlight = e.inFlight) :
    ReadSlotsAgree (l.map fun e => if e.request = k then f e else e) a b :=
  h.map (fun e => by split <;> simp [request]) (fun e => by split <;> simp [inFlight])

/-- An entry that was not in flight is issued into a FREE slot (R102, R114). -/
theorem issue (h : ReadSlotsAgree l .free b) {e : ReadEntry} (he : e ∈ l) (waits : e.inFlight = false) :
    ReadSlotsAgree (l.map fun x => if x.request = e.request then { x with phase := .issued false } else x)
      (.occupied e.request) b where
  readA k hk := by
    cases hk
    exact ⟨{ e with phase := .issued false }, List.mem_map.2 ⟨e, he, by simp⟩, rfl, rfl⟩
  readB k hk := by
    obtain ⟨e', he', rfl, flies⟩ := h.readB k hk
    have other : e'.request ≠ e.request := fun same => by
      rw [h.entry_eq he he' same, waits] at flies
      cases flies
    exact ⟨e', List.mem_map.2 ⟨e', he', by simp [other]⟩, rfl, flies⟩
  apart k hk hb := by
    cases hk
    obtain ⟨e', he', same, flies⟩ := h.readB _ hb
    rw [h.entry_eq he he' same, waits] at flies
    cases flies
  held x hx flies := by
    obtain ⟨e', he', rfl⟩ := List.mem_map.1 hx
    by_cases same : e'.request = e.request
    · simp [same]
    · simp only [if_neg same] at flies ⊢
      obtain none | hb := h.held e' he' flies
      · cases none
      · exact .inr hb
  distinct := by
    rw [requests_update (f := fun x => { x with phase := .issued false }) fun _ => rfl]
    exact h.distinct

/-- A fetch ends: the entry is no longer in flight, and its slot is FREE (R103 to R105, R114). -/
theorem finish {k : ReadRequest} (h : ReadSlotsAgree l (.occupied k) b) {f : ReadEntry → ReadEntry}
    (request : ∀ e, (f e).request = e.request) (ended : ∀ e, (f e).inFlight = false) :
    ReadSlotsAgree (l.map fun e => if e.request = k then f e else e) .free b where
  readA := nofun
  readB k' hk' := by
    obtain ⟨e, he, rfl, flies⟩ := h.readB k' hk'
    have other : e.request ≠ k := fun same => h.apart k rfl (same ▸ hk')
    exact ⟨e, List.mem_map.2 ⟨e, he, by simp [other]⟩, rfl, flies⟩
  apart := nofun
  held x hx flies := by
    obtain ⟨e, he, rfl⟩ := List.mem_map.1 hx
    by_cases same : e.request = k
    · rw [if_pos same, ended e] at flies
      cases flies
    · simp only [if_neg same] at flies ⊢
      obtain own | hb := h.held e he flies
      · exact absurd (ReadSlot.occupied.inj own).symm same
      · exact .inr hb
  distinct := by rw [requests_update request]; exact h.distinct

/-- A slot that no entry in flight holds becomes FREE (R113, R126). -/
theorem free (h : ReadSlotsAgree l a b) (orphaned : ∀ k, a ≠ .occupied k) : ReadSlotsAgree l .free b :=
  ⟨nofun, h.readB, nofun, fun e he flies => (h.held e he flies).elim (fun own => absurd own (orphaned _)) .inr,
    h.distinct⟩

theorem orphanIf_occupied (x : ReadSlot) (freed : ReadRequest → Bool) (k : ReadRequest) :
    x.orphanIf freed = .occupied k ↔ x = .occupied k ∧ freed k = false := by
  cases x with
  | free => simp [ReadSlot.orphanIf]
  | orphaned => simp [ReadSlot.orphanIf]
  | occupied k' =>
    simp only [ReadSlot.orphanIf]
    cases hf : freed k' with
    | true =>
      simp only [if_true, reduceCtorEq, false_iff]
      rintro ⟨own, kept⟩
      cases own
      rw [hf] at kept
      cases kept
    | false =>
      simp only [Bool.false_eq_true, if_false]
      exact ⟨fun own => ⟨own, by cases own; exact hf⟩, fun own => own.1⟩

/-- The slots of the entries that are freed become ORPHANED (R125). -/
theorem filter (h : ReadSlotsAgree l a b) (p : ReadEntry → Bool) :
    let freed := fun k => l.any fun e => p e && e.inFlight && decide (e.request = k)
    ReadSlotsAgree (l.filter fun e => !p e) (a.orphanIf freed) (b.orphanIf freed) := by
  intro freed
  have kept : ∀ e ∈ l, e.inFlight = true → (freed e.request = false ↔ p e = false) := by
    intro e he flies
    simp only [freed, List.any_eq_false, Bool.and_eq_true, decide_eq_true_eq, not_and, and_imp]
    constructor
    · intro none
      exact Bool.not_eq_true _ ▸ fun hp => none e he hp flies rfl
    · intro hp e' he' hp' _ same
      rw [h.entry_eq he he' same, hp] at hp'
      cases hp'
  have survives : ∀ k, (∃ e ∈ l, e.request = k ∧ e.inFlight = true) → freed k = false →
      ∃ e ∈ l.filter fun e => !p e, e.request = k ∧ e.inFlight = true := by
    rintro k ⟨e, he, rfl, flies⟩ hk
    have hp := (kept e he flies).1 hk
    exact ⟨e, List.mem_filter.2 ⟨he, by simp [hp]⟩, rfl, flies⟩
  refine ⟨fun k hk => ?_, fun k hk => ?_, fun k ha hb => ?_, fun e he flies => ?_,
    h.distinct.sublist (requests_filter _ l)⟩
  · obtain ⟨own, free⟩ := (orphanIf_occupied _ _ _).1 hk
    exact survives k (h.readA k own) free
  · obtain ⟨own, free⟩ := (orphanIf_occupied _ _ _).1 hk
    exact survives k (h.readB k own) free
  · exact h.apart k ((orphanIf_occupied _ _ _).1 ha).1 ((orphanIf_occupied _ _ _).1 hb).1
  · obtain ⟨he, hp⟩ := List.mem_filter.1 he
    have free := (kept e he flies).2 (by simpa using hp)
    exact (h.held e he flies).imp (fun own => (orphanIf_occupied _ _ _).2 ⟨own, free⟩)
      fun own => (orphanIf_occupied _ _ _).2 ⟨own, free⟩

/-- An entry that is not in flight leaves the table (R60, R107). -/
theorem remove (h : ReadSlotsAgree l a b) {e : ReadEntry} (he : e ∈ l) (rests : e.inFlight = false) :
    ReadSlotsAgree (l.filter fun x => decide (x.request ≠ e.request)) a b := by
  have survives : ∀ k, (∃ x ∈ l, x.request = k ∧ x.inFlight = true) →
      ∃ x ∈ l.filter fun x => decide (x.request ≠ e.request), x.request = k ∧ x.inFlight = true := by
    rintro k ⟨x, hx, rfl, flies⟩
    have other : x.request ≠ e.request := fun same => by
      rw [h.entry_eq he hx same, rests] at flies
      cases flies
    exact ⟨x, List.mem_filter.2 ⟨hx, by simpa using other⟩, rfl, flies⟩
  exact ⟨fun k hk => survives k (h.readA k hk), fun k hk => survives k (h.readB k hk), h.apart,
    fun x hx => h.held x (List.mem_filter.1 hx).1, h.distinct.sublist (requests_filter _ l)⟩

/-- A new entry that is not in flight joins the table (R95). -/
theorem append (h : ReadSlotsAgree l a b) {e : ReadEntry} (fresh : ∀ x ∈ l, x.request ≠ e.request)
    (rests : e.inFlight = false) : ReadSlotsAgree (l ++ [e]) a b where
  readA k hk := by
    obtain ⟨x, hx, named⟩ := h.readA k hk
    exact ⟨x, List.mem_append_left _ hx, named⟩
  readB k hk := by
    obtain ⟨x, hx, named⟩ := h.readB k hk
    exact ⟨x, List.mem_append_left _ hx, named⟩
  apart := h.apart
  held x hx flies := by
    obtain hx | hx := List.mem_append.1 hx
    · exact h.held x hx flies
    · rw [List.mem_singleton.1 hx, rests] at flies
      cases flies
  distinct := by
    rw [requests, List.map_append, List.nodup_append]
    refine ⟨h.distinct, by simp, fun k hk k' hk' => ?_⟩
    obtain ⟨x, hx, rfl⟩ := List.mem_map.1 hk
    simp only [List.map_cons, List.map_nil, List.mem_singleton] at hk'
    exact hk' ▸ fresh x hx

/-- An empty table holds no slot. -/
theorem nil (ha : ∀ k, a ≠ .occupied k) (hb : ∀ k, b ≠ .occupied k) : ReadSlotsAgree [] a b :=
  ⟨fun k h => absurd h (ha k), fun k h => absurd h (hb k), fun k h => absurd h (ha k), nofun, List.nodup_nil⟩

end ReadSlotsAgree

theorem holder_eq_occupied {x : ReadSlot} {k : ReadRequest} (h : x.holder = .read k) : x = .occupied k := by
  cases x <;> simp_all [ReadSlot.holder]

/-- A response that finds a read finds it in one of the read slots (R113). -/
theorem holder_read {s : State} {tag : BitVec 2} {k : ReadRequest} (h : s.holder tag = .read k) :
    (tag = 1 ∧ s.link.readA = .occupied k) ∨ (tag = 2 ∧ s.link.readB = .occupied k) := by
  rcases holder_cases s tag with ⟨-, ⟨-, e⟩ | ⟨-, e⟩ | ⟨-, e⟩ | ⟨-, e⟩⟩ | ⟨rfl, e⟩ | ⟨rfl, e⟩ | ⟨-, e⟩ <;>
    rw [e] at h
  case inr.inl => exact .inl ⟨rfl, holder_eq_occupied h⟩
  case inr.inr.inl => exact .inr ⟨rfl, holder_eq_occupied h⟩
  all_goals cases h

theorem orphan_ne_occupied (x : ReadSlot) (k : ReadRequest) : x.orphan ≠ .occupied k := by
  cases x <;> simp [ReadSlot.orphan]

/-- Freeing the slot of a response that finds no queue head and no read (R113, R126, R138). -/
theorem slotsAgree_freeSlot {s : State} (h : SlotsAgree s) {tag : BitVec 2}
    (found : s.holder tag = .orphaned ∨ s.holder tag = .noticeHead) : SlotsAgree (s.freeSlot tag) := by
  obtain ⟨w, r⟩ := (slotsAgree_iff s).1 h
  refine (slotsAgree_iff _).2 ?_
  have notice : s.holder tag = .noticeHead → tag = 0 ∧ s.link.writeSlot = .occupied .noticeHead := holder_noticeHead
  have slot : (tag = 0 ∧ s.link.writeSlot ≠ .occupied .queueHead) ∨ (tag = 1 ∧ s.link.readA = .orphaned) ∨
      (tag = 2 ∧ s.link.readB = .orphaned) := by
    obtain orphaned | found := found
    · obtain ⟨rfl, e⟩ | e | e := (StrayResponses.holder_eq_orphaned_iff s tag).1 orphaned
      · exact .inl ⟨rfl, by simp [e]⟩
      · exact .inr (.inl e)
      · exact .inr (.inr e)
    · obtain ⟨rfl, e⟩ := notice found
      exact .inl ⟨rfl, by simp [e]⟩
  obtain ⟨rfl, e⟩ | ⟨rfl, e⟩ | ⟨rfl, e⟩ := slot
  · have rests : s.headIssue ≠ .inFlight := mt w.head.2 e
    exact ⟨⟨by simpa using rests, fun flies => absurd flies rests⟩, r⟩
  · exact ⟨w, r.free (by simp [e])⟩
  · exact ⟨w, (r.swap.free (by simp [e])).swap⟩

theorem slotsAgree_queueMove {s t : State} (h : SlotsAgree s) (m : QueueMove s t) : SlotsAgree t := by
  obtain ⟨w, r⟩ := (slotsAgree_iff s).1 h
  cases m with
  | quiet q =>
    rw [slotsAgree_iff, q.writeSlot, q.headIssue, q.pwq, q.reads, q.readA, q.readB]
    exact ⟨w, r⟩
  | indexReturned | noticeHeadChanged | noticesEnabled | noticesDisabled | noticesConfigured =>
    exact (slotsAgree_iff _).2 ⟨w, r⟩
  | readRemoved k e x n found done =>
    obtain ⟨he, rfl⟩ := findRead_some found
    exact (slotsAgree_iff _).2 ⟨w, r.remove he (by simp [ReadEntry.inFlight, done])⟩
  | readCreated k tag place fresh => exact (slotsAgree_iff _).2 ⟨w, r.append fresh rfl⟩
  | headIssued eligible =>
    obtain ⟨some, -, -, -⟩ := (queueEligible_iff s).1 eligible
    obtain ⟨e, q, hq⟩ := List.exists_cons_of_ne_nil some
    rw [State.issueHead, hq]
    exact (slotsAgree_iff _).2 ⟨⟨by simp, fun _ => by simp⟩, r⟩
  | readIssued e offered slot =>
    obtain ⟨he, queued, -⟩ := offeredRead_some offered
    have rests : e.inFlight = false := by simp [ReadEntry.inFlight, queued]
    unfold State.issueRead
    extract_lets issued
    split
    · next free =>
      rw [free] at r
      exact (slotsAgree_iff _).2 ⟨w, r.issue he rests⟩
    · next taken =>
      rw [slot.resolve_left taken] at r
      exact (slotsAgree_iff _).2 ⟨w, (r.swap.issue he rests).swap⟩
  | noticeIssued eligible =>
    cases hf : s.notices.fifo with
    | nil => simp [State.noticeEligible, hf] at eligible
    | cons n q =>
      obtain ⟨-, free, -⟩ := (noticeEligible_cons hf).1 eligible
      have rests : s.headIssue ≠ .inFlight := mt w.head.2 (by simp [free])
      rw [State.issueNotice, hf]
      exact (slotsAgree_iff _).2 ⟨⟨by simpa using rests, w.nonempty⟩, r⟩
  | slotFreed tag found => exact slotsAgree_freeSlot h found
  | headRaised =>
    rw [slotsAgree_iff, raiseHeadAttempts_link, raiseHeadAttempts_headIssue, raiseHeadAttempts_reads]
    refine ⟨⟨w.head, fun flies => ?_⟩, r⟩
    obtain ⟨e, q, hq⟩ := List.exists_cons_of_ne_nil (w.nonempty flies)
    simp [State.raiseHeadAttempts, hq]
  | headWaits =>
    have rests : (s.freeSlot 0).headBackoff.headIssue ≠ .inFlight := by
      show (match s.backoffInterval with | none => IssueState.waiting | some n => .backoff n) ≠ _
      split <;> simp
    exact (slotsAgree_iff _).2
      ⟨⟨⟨fun held => by simp [State.headBackoff] at held, fun flies => absurd flies rests⟩,
        fun flies => absurd flies rests⟩, r⟩
  | noticeLeft slot =>
    have freed := slotsAgree_freeSlot h (tag := 0) (.inr (by simp [State.holder, slot]))
    obtain ⟨w', r'⟩ := (slotsAgree_iff _).1 freed
    exact (slotsAgree_iff _).2 ⟨w', r'⟩
  | fetchEnded tag k f hold answers =>
    have request := finish_request answers.request s.pwq
    have ended := finish_ended answers.ended s.pwq
    obtain ⟨rfl, own⟩ | ⟨rfl, own⟩ := holder_read hold <;> rw [own] at r
    · exact (slotsAgree_iff _).2 ⟨w, r.finish request ended⟩
    · exact (slotsAgree_iff _).2 ⟨w, (r.swap.finish request ended).swap⟩
  | headBackoffEnded waits =>
    have rests : s.headIssue ≠ .inFlight := by simp [waits]
    exact (slotsAgree_iff _).2 ⟨⟨by simpa using mt w.head.1 rests, by simp⟩, r⟩
  | readBackoffEnded k =>
    exact (slotsAgree_iff _).2 ⟨w, r.update k endBackoff_request endBackoff_inFlight⟩
  | readsFreed p => exact (slotsAgree_iff _).2 ⟨w, r.filter p⟩

theorem slotsAgree_part {s t : State} (h : SlotsAgree s) (m : Part s t) : SlotsAgree t := by
  obtain ⟨w, r⟩ := (slotsAgree_iff s).1 h
  cases m with
  | ringSide k =>
    rw [slotsAgree_iff, k.writeSlot, k.headIssue, k.pwq, k.reads, k.readA, k.readB]
    exact ⟨w, r⟩
  | joined e room =>
    refine (slotsAgree_iff _).2 ⟨⟨?_, fun _ => by simp⟩,
      r.map (fun x => (overlap_request x _ _).1) fun x => overlap_inFlight x _ _⟩
    show s.link.writeSlot = _ ↔ s.headIssueAfterJoin = _
    unfold State.headIssueAfterJoin
    split
    · next none => simpa using mt w.head.1 fun flies => w.nonempty flies none
    · exact w.head
  | readsFreed p => exact (slotsAgree_iff _).2 ⟨w, r.filter p⟩
  | headEnded =>
    exact (slotsAgree_iff _).2 ⟨⟨by simp [State.dropHead], by simp [State.dropHead]⟩,
      r.map (f := ReadEntry.headLeft) (fun _ => rfl) fun _ => rfl⟩
  | slotLost slot none => exact absurd none (w.nonempty (w.head.1 slot))
  | headRetired waits =>
    exact (slotsAgree_iff _).2 ⟨⟨by simpa [State.dropHead] using mt w.head.1 waits, by simp [State.dropHead]⟩,
      r.map (f := ReadEntry.headLeft) (fun _ => rfl) fun _ => rfl⟩
  | poweredOn ma =>
    exact (slotsAgree_iff _).2 ⟨⟨by simp [State.powerOn, State.reset], by simp [State.powerOn, State.reset]⟩,
      .nil nofun nofun⟩
  | activated n => exact (slotsAgree_iff _).2 ⟨w, r.filter _⟩
  | datapathReset =>
    have orphan : s.link.writeSlot.orphan ≠ .occupied .queueHead := by
      cases s.link.writeSlot <;> simp [WriteSlot.orphan]
    exact (slotsAgree_iff _).2 ⟨⟨by simpa [State.resetDatapath] using orphan, by simp [State.resetDatapath]⟩,
      .nil (orphan_ne_occupied _) (orphan_ne_occupied _)⟩
  | ticked =>
    have flies : s.headIssue.tick = .inFlight ↔ s.headIssue = .inFlight := by
      cases s.headIssue <;> simp [IssueState.tick]
    exact (slotsAgree_iff _).2 ⟨⟨w.head.trans flies.symm, fun f => w.nonempty (flies.1 f)⟩,
      r.map (f := ReadEntry.tick) (fun _ => rfl) tick_inFlight⟩

/-- Settles O52: a slot is taken at an issue, left at its response, and orphaned with the entry that held it. -/
theorem slotsAgreeKept : Obligations.SlotsAgreeKept :=
  kept_of_parts (fun _ _ => slotsAgree_queueMove) fun _ _ => slotsAgree_part

/-! ### Reads that wait behind writes (R98, R99) -/

theorem waitsFor_overlap {q : List QueueEntry} {x : ReadEntry} (h : waitsFor q x) (e : QueueEntry) :
    waitsFor (q ++ [e]) (x.overlap e.line (q ++ [e])) := by
  have grown := lineHits_append x.line q e
  obtain ⟨other, h'⟩ | ⟨own, ⟨b, hb⟩, h'⟩ | ⟨own, ⟨b, hb⟩, h'⟩ | ⟨own, -, h'⟩ :=
    overlap_cases x e.line (q ++ [e]) <;> rw [h']
  · rw [if_neg (Ne.symm other), List.append_nil] at grown
    simpa only [waitsFor, grown] using h
  · rw [if_pos own.symm] at grown
    simp only [waitsFor, hb] at h ⊢
    show x.counted ++ [(q ++ [e]).length - 1] = lineHits x.line (q ++ [e])
    rw [grown, h, List.length_append, List.length_singleton, Nat.add_sub_cancel]
  · cases b <;> simp only [waitsFor, hb] at h ⊢
    · exact h.1
    · exact h
  · simp only [waitsFor, ReadEntry.requeue]
    rfl

theorem waitsFor_headLeft {q : List QueueEntry} {x : ReadEntry} (h : waitsFor q x) : waitsFor q.tail x.headLeft := by
  have shrunk := lineHits_tail x.line q
  have line : x.headLeft.line = x.line := rfl
  have none : x.counted = [] → x.headLeft.counted = [] := fun e => by simp [ReadEntry.headLeft, e]
  have noHits : lineHits x.line q = [] → lineHits x.line q.tail = [] := fun e => by simp [shrunk, e]
  unfold waitsFor at h ⊢
  rw [show x.headLeft.phase = x.phase from rfl, line]
  split at h
  · rw [shrunk, ← h]
    rfl
  · exact none h
  · exact h.imp none noHits
  · exact h.imp none noHits

/-- Entries that differ in their attempts wait for the same places. -/
theorem lineHits_congr {q q' : List QueueEntry} (h : q'.map QueueEntry.line = q.map QueueEntry.line) (line : Addr) :
    lineHits line q' = lineHits line q := by
  induction q generalizing q' with
  | nil =>
    rw [List.map_nil, List.map_eq_nil_iff] at h
    rw [h]
  | cons e q ih =>
    cases q' with
    | nil => simp at h
    | cons e' q' =>
      simp only [List.map_cons, List.cons.injEq] at h
      simp only [lineHits, h.1, ih h.2]

theorem waitsFor_congr {q q' : List QueueEntry} (h : ∀ line, lineHits line q' = lineHits line q) (e : ReadEntry) :
    waitsFor q' e ↔ waitsFor q e := by
  unfold waitsFor
  simp only [h]

/-- The end of a fetch: counted afresh where a write overtook it, and with nothing to wait for otherwise (R103 to
R105). -/
theorem waitsFor_finish {q : List QueueEntry} {e : ReadEntry} (h : waitsFor q e) {f : ReadEntry → ReadEntry}
    (answers : Answers f) : waitsFor q (e.finish q f) := by
  unfold ReadEntry.finish
  split
  · simp only [waitsFor, ReadEntry.requeue]
    rfl
  · next phase =>
    simp only [waitsFor, phase] at h
    obtain ⟨none, noHits⟩ := h
    have counted : (f e).counted = [] := (answers.counted e).trans none
    have line : (f e).line = e.line := by simp only [ReadEntry.line, answers.request e]
    have ended := answers.ended e
    unfold waitsFor
    split
    · rw [counted, line, noHits]
    · exact counted
    · exact ⟨counted, by rw [line, noHits]⟩
    · exact ⟨counted, by rw [line, noHits]⟩
  · exact h
  · exact h

/-- What each entry keeps as it changes, the table keeps. -/
theorem readsWait_map {q q' : List QueueEntry} {l : List ReadEntry} {f : ReadEntry → ReadEntry}
    (h : ∀ e ∈ l, waitsFor q e) (hf : ∀ e ∈ l, waitsFor q e → waitsFor q' (f e)) :
    ∀ e ∈ l.map f, waitsFor q' e := by
  intro x hx
  obtain ⟨e, he, rfl⟩ := List.mem_map.1 hx
  exact hf e he (h e he)

theorem readsWait_queueMove {s t : State} (h : ReadsWait s) (m : QueueMove s t) : ReadsWait t := by
  cases m with
  | quiet q =>
    unfold ReadsWait
    rw [q.reads, q.pwq]
    exact h
  | indexReturned | noticeHeadChanged | noticesEnabled | noticesDisabled | noticesConfigured | slotFreed |
      headWaits | noticeLeft | headBackoffEnded => exact h
  | readRemoved k => exact fun e he => h e (List.mem_filter.1 he).1
  | readCreated k tag =>
    intro e he
    obtain he | he := List.mem_append.1 he
    · exact h e he
    · rw [List.mem_singleton.1 he]
      rfl
  | headIssued =>
    unfold ReadsWait
    rw [issueHead_reads, issueHead_pwq]
    exact h
  | readIssued e offered =>
    obtain ⟨he, queued, none⟩ := offeredRead_some offered
    have noHits : lineHits e.line s.pwq = [] := by
      have := h e he
      simp only [waitsFor, queued, none] at this
      exact this.symm
    unfold ReadsWait
    rw [issueRead_reads, issueRead_pwq]
    refine readsWait_map h fun x hx wx => ?_
    split
    · next same =>
      have line : x.line = e.line := by simp only [ReadEntry.line, same]
      have counted : x.counted = [] := by
        unfold waitsFor at wx
        rw [line, noHits] at wx
        split at wx
        · exact wx
        · exact wx
        · exact wx.1
        · exact wx.1
      exact ⟨counted, line ▸ noHits⟩
    · exact wx
  | noticeIssued =>
    unfold ReadsWait
    rw [issueNotice_reads, issueNotice_pwq]
    exact h
  | headRaised =>
    have same : s.raiseHeadAttempts.pwq.map QueueEntry.line = s.pwq.map QueueEntry.line := by
      unfold State.raiseHeadAttempts
      split
      · rfl
      · next hq => simp [hq, QueueEntry.line]
    intro e he
    rw [raiseHeadAttempts_reads] at he
    exact (waitsFor_congr (lineHits_congr same) e).2 (h e he)
  | fetchEnded tag k f hold answers =>
    refine readsWait_map h fun e _ we => ?_
    split
    · exact waitsFor_finish we answers
    · exact we
  | readBackoffEnded k =>
    refine readsWait_map h fun e _ we => ?_
    split
    · unfold ReadEntry.endBackoff
      split
      · next phase =>
        simp only [waitsFor, phase] at we ⊢
        exact we
      · exact we
    · exact we
  | readsFreed p => exact fun e he => h e (List.mem_filter.1 he).1

theorem readsWait_part {s t : State} (h : ReadsWait s) (m : Part s t) : ReadsWait t := by
  cases m with
  | ringSide k =>
    unfold ReadsWait
    rw [k.reads, k.pwq]
    exact h
  | joined e room => exact readsWait_map h fun x _ wx => waitsFor_overlap wx e
  | readsFreed p => exact fun e he => h e (List.mem_filter.1 he).1
  | headEnded | headRetired => exact readsWait_map h fun x _ wx => waitsFor_headLeft wx
  | slotLost => exact h
  | poweredOn ma => exact nofun
  | activated n => exact fun e he => h e (List.mem_filter.1 he).1
  | datapathReset => exact nofun
  | ticked =>
    refine readsWait_map h fun e _ we => ?_
    cases phase : e.phase with
    | queued b =>
      simp only [waitsFor, phase, ReadEntry.tick, ReadPhase.tick] at we ⊢
      exact we
    | issued b =>
      cases b <;>
        (simp only [waitsFor, phase, ReadEntry.tick, ReadPhase.tick] at we ⊢
         exact we)
    | complete x n =>
      simp only [waitsFor, phase, ReadEntry.tick, ReadPhase.tick] at we ⊢
      exact we

/-- Settles O53: a write that joins is counted by the reads of its line, the head that leaves is taken off, and a
read is issued only with none to wait for. -/
theorem readsWaitKept : Obligations.ReadsWaitKept :=
  kept_of_parts (fun _ _ => readsWait_queueMove) fun _ _ => readsWait_part

end Sys2Proof.Whole
end

section
/-! The indices of the notice queue, and the ranges of decode, over every step. -/

namespace Sys2Proof.Whole

open Sys2Proof.Machine Sys2Proof.Safety Sys2Proof.Laws

/-! ### The indices of the notice queue (R128, R137) -/

/-- The law reads the notice queue, and the write slot where a notice holds it. -/
theorem indicesAgree_congr {s t : State} (h : IndicesAgree s) (notices : t.notices = s.notices)
    (slot : t.link.writeSlot = .occupied .noticeHead → s.link.writeSlot = .occupied .noticeHead) : IndicesAgree t := by
  refine ⟨?_, ?_, ?_, fun held => ?_, ?_⟩ <;> rw [notices]
  · exact h.later
  · exact h.assigned
  · exact h.empty
  · exact h.inFlight (slot held)
  · exact h.fits

/-- Notices that were never issued join behind the head (R135). -/
theorem indicesAgree_grown {s t : State} (h : IndicesAgree s) (grown : NoticesGrown s.notices t.notices)
    (slot : t.link.writeSlot = .occupied .noticeHead → s.link.writeSlot = .occupied .noticeHead) : IndicesAgree t := by
  obtain ⟨q, unissued, -, eq⟩ := grown
  cases hf : s.notices.fifo with
  | nil =>
    rw [hf, List.nil_append] at eq
    refine ⟨?_, ?_, ?_, fun held => ?_, ?_⟩ <;> rw [eq]
    · exact fun n hn => unissued n (List.mem_of_mem_tail hn)
    · intro n hn
      have none := unissued n (List.mem_of_head? hn)
      simp [none, h.empty hf]
    · exact fun _ => h.empty hf
    · obtain ⟨n, hn, -⟩ := h.inFlight (slot held)
      simp [hf] at hn
    · exact h.fits
  | cons n rest =>
    have later := h.later
    have assigned := h.assigned
    rw [hf] at later assigned
    refine ⟨?_, ?_, ?_, fun held => ?_, ?_⟩ <;> rw [eq]
    · intro m hm
      simp only [hf, List.cons_append, List.tail_cons] at hm
      exact (List.mem_append.1 hm).elim (later m) (unissued m)
    · intro m hm
      simp only [hf, List.cons_append, List.head?_cons] at hm
      exact assigned m (by simpa using hm)
    · exact fun none => by simp [hf] at none
    · obtain ⟨m, hm, some⟩ := h.inFlight (slot held)
      exact ⟨m, by simpa [hf] using hm, some⟩
    · exact h.fits

/-- The head changes, but not its slot. -/
theorem indicesAgree_head {s : State} (h : IndicesAgree s) {n m : PendingNotice} {rest : List PendingNotice}
    (hf : s.notices.fifo = n :: rest) (slot : m.slot = n.slot) :
    IndicesAgree { s with notices := { s.notices with fifo := m :: rest } } where
  later := by
    have := h.later
    rw [hf] at this
    exact this
  assigned x hx := by
    cases hx
    rw [slot]
    exact h.assigned n (by rw [hf]; rfl)
  empty := nofun
  inFlight held := by
    obtain ⟨x, hx, some⟩ := h.inFlight held
    rw [hf] at hx
    cases hx
    exact ⟨m, rfl, by rw [slot, some]⟩
  fits := h.fits

/-- The head's write has ended: its slot is completed (R138, R139). -/
theorem indicesAgree_noticeLeft {s : State} (h : IndicesAgree s) (held : s.link.writeSlot = .occupied .noticeHead) :
    IndicesAgree (s.freeSlot 0).noticeLeaves := by
  obtain ⟨n, hn, some⟩ := h.inFlight held
  obtain ⟨rest, hf⟩ : ∃ rest, s.notices.fifo = n :: rest := by
    cases hf : s.notices.fifo with
    | nil => simp [hf] at hn
    | cons m rest =>
      rw [hf] at hn
      cases hn
      exact ⟨rest, rfl⟩
  have later : ∀ m ∈ rest, m.slot = none := by simpa [hf] using h.later
  have ahead : s.notices.w - s.notices.wd = 1 := by rw [h.assigned n hn, if_pos some]
  have level : s.notices.w = s.notices.wd + 1 := by bv_omega
  refine ⟨fun m hm => later m ?_, fun m hm => ?_, fun _ => level, nofun, fun on => ?_⟩
  · simpa [State.noticeLeaves, hf] using List.mem_of_mem_tail (by simpa [State.noticeLeaves, hf] using hm)
  · have none := later m (by simpa [State.noticeLeaves, hf] using List.mem_of_head? hm)
    show s.notices.w - (s.notices.wd + 1) = _
    rw [level, none]
    simp
  · obtain ⟨few, fits⟩ := h.fits on
    refine ⟨few, ?_⟩
    show (s.notices.wd + 1 - s.notices.r).toNat + (s.notices.w - (s.notices.wd + 1)).toNat ≤ s.notices.slots
    bv_omega

/-- The head is issued: at its first issue W leads Wd by it, and its slot is within the queue (R118, R137). -/
theorem indicesAgree_issueNotice {s : State} (h : IndicesAgree s) (eligible : s.noticeEligible = true) :
    IndicesAgree s.issueNotice := by
  cases hf : s.notices.fifo with
  | nil => simp [State.noticeEligible, hf] at eligible
  | cons n rest =>
    obtain ⟨-, -, -, place⟩ := (noticeEligible_cons hf).1 eligible
    have later : ∀ m ∈ rest, m.slot = none := by simpa [hf] using h.later
    have assigned := h.assigned n (by rw [hf]; rfl)
    rw [State.issueNotice, hf]
    simp only
    cases hs : n.slot with
    | some k =>
      rw [hs] at assigned
      exact ⟨later, fun m hm => by cases hm; simpa using assigned, nofun, fun _ => ⟨_, rfl, rfl⟩,
        by simpa [NoticeUnit.slots] using h.fits⟩
    | none =>
      rw [hs] at assigned
      have level : s.notices.w = s.notices.wd := by
        simp only [Option.isSome_none, Bool.false_eq_true, if_false] at assigned
        bv_omega
      refine ⟨later, fun m hm => ?_, nofun, fun _ => ⟨_, rfl, rfl⟩, fun on => ?_⟩
      · cases hm
        show s.notices.w + 1 - s.notices.wd = 1
        rw [level]
        bv_omega
      · obtain ⟨few, fits⟩ := h.fits on
        have room : (s.notices.w - s.notices.r).toNat < s.notices.slots :=
          place.resolve_left (by simp [hs])
        refine ⟨few, ?_⟩
        show (s.notices.wd - s.notices.r).toNat + (s.notices.w + 1 - s.notices.wd).toNat ≤ s.notices.slots
        rw [level] at room ⊢
        bv_omega

theorem slots_le {n : NoticeUnit} (h : n.valid = true) : n.slots ≤ 1024 := by
  obtain ⟨code, -⟩ := (noticeUnit_valid_iff n).1 h
  rw [slots_eq code]
  have : 2 ^ n.slotCode.toNat ≤ 2 ^ 6 := Nat.pow_le_pow_right (by decide) code
  omega

theorem indicesAgree_queueMove {s t : State} (h : IndicesAgree s) (m : QueueMove s t) : IndicesAgree t := by
  cases m with
  | quiet q => exact indicesAgree_congr h q.notices fun held => q.writeSlot ▸ held
  | indexReturned v near =>
    refine ⟨h.later, h.assigned, h.empty, h.inFlight, fun on => ?_⟩
    obtain ⟨few, fits⟩ := h.fits on
    refine ⟨few, ?_⟩
    show (s.notices.wd - v).toNat + (s.notices.w - s.notices.wd).toNat ≤ s.notices.slots
    have moved : (s.notices.wd - v).toNat ≤ (s.notices.wd - s.notices.r).toNat := by bv_omega
    omega
  | readRemoved | readCreated | headBackoffEnded | readBackoffEnded | readsFreed =>
    exact indicesAgree_congr h rfl id
  | headIssued eligible =>
    obtain ⟨some, -⟩ := (queueEligible_iff s).1 eligible
    obtain ⟨e, q, hq⟩ := List.exists_cons_of_ne_nil some
    refine indicesAgree_congr h (by simp) fun held => ?_
    simp [State.issueHead, hq] at held
  | readIssued e => exact indicesAgree_congr h (by simp) fun held => by simpa using held
  | noticeIssued eligible => exact indicesAgree_issueNotice h eligible
  | slotFreed tag found | fetchEnded tag =>
    refine indicesAgree_congr h rfl fun held => ?_
    have held : (if tag = 0 then WriteSlot.free else s.link.writeSlot) = .occupied .noticeHead := held
    split at held
    · cases held
    · exact held
  | headRaised => exact indicesAgree_congr h (by simp) fun held => by simpa using held
  | headWaits slot => exact indicesAgree_congr h rfl fun held => by simp [State.headBackoff] at held
  | noticeLeft slot => exact indicesAgree_noticeLeft h slot
  | noticeHeadChanged n m rest hf slot => exact indicesAgree_head h hf slot
  | noticesEnabled off slot valid apart =>
    have unassigned : ∀ n ∈ s.notices.enable.fifo, n.slot = none := by
      intro n hn
      obtain ⟨m, -, rfl⟩ := List.mem_map.1 hn
      rfl
    refine ⟨fun n hn => unassigned n (List.mem_of_mem_tail hn), fun n hn => ?_, fun _ => rfl,
      fun held => absurd held slot, fun _ => ⟨slots_le valid, by simp [NoticeUnit.enable]⟩⟩
    show (0 : BitVec 16) - 0 = _
    rw [unassigned n (List.mem_of_head? hn)]
    rfl
  | noticesDisabled => exact ⟨h.later, h.assigned, h.empty, h.inFlight, nofun⟩
  | noticesConfigured base word code off =>
    exact ⟨h.later, h.assigned, h.empty, h.inFlight, fun on => absurd (off.symm.trans on) (by decide)⟩

/-- An empty notice queue with no write in flight. -/
theorem indicesAgree_empty {t : State} (none : t.notices.fifo = []) (level : t.notices.w = t.notices.wd)
    (slot : t.link.writeSlot ≠ .occupied .noticeHead)
    (fits : t.notices.enabled = true → t.notices.slots ≤ 1024 ∧
      (t.notices.wd - t.notices.r).toNat + (t.notices.w - t.notices.wd).toNat ≤ t.notices.slots) :
    IndicesAgree t where
  later n hn := by simp [none] at hn
  assigned n hn := by simp [none] at hn
  empty _ := level
  inFlight held := absurd held slot
  fits := fits

theorem indicesAgree_part {s t : State} (h : IndicesAgree s) (m : Part s t) : IndicesAgree t := by
  cases m with
  | ringSide k => exact indicesAgree_grown h k.notices fun held => k.writeSlot ▸ held
  | joined | readsFreed | headRetired | activated => exact indicesAgree_congr h rfl id
  | headEnded | slotLost => exact indicesAgree_congr h rfl fun held => by simp [State.dropHead] at held
  | poweredOn ma =>
    exact indicesAgree_empty rfl rfl (by simp [State.powerOn, State.reset]) nofun
  | datapathReset =>
    refine indicesAgree_empty rfl rfl (fun held => ?_) fun on => ⟨(h.fits on).1, by simp [State.resetDatapath]⟩
    have held : s.link.writeSlot.orphan = .occupied .noticeHead := held
    cases hw : s.link.writeSlot <;> simp [hw, WriteSlot.orphan] at held
  | ticked =>
    have tick : ∀ l : List PendingNotice, (l.map PendingNotice.tick).head? = l.head?.map PendingNotice.tick :=
      fun l => List.head?_map
    refine ⟨fun n hn => ?_, fun n hn => ?_, fun none => h.empty (List.map_eq_nil_iff.1 none), fun held => ?_, h.fits⟩
    · have hn : n ∈ (s.notices.fifo.map PendingNotice.tick).tail := hn
      rw [← List.map_tail] at hn
      obtain ⟨m, hm, rfl⟩ := List.mem_map.1 hn
      exact h.later m hm
    · have hn : (s.notices.fifo.map PendingNotice.tick).head? = some n := hn
      rw [tick] at hn
      obtain ⟨m, hm, rfl⟩ := Option.map_eq_some_iff.1 hn
      exact h.assigned m hm
    · obtain ⟨n, hn, some⟩ := h.inFlight held
      exact ⟨n.tick, (tick _).trans (by rw [hn]; rfl), some⟩

/-- Settles O54: W rises with the slot of the head, Wd as the head leaves, and R no further than Wd. -/
theorem indicesAgreeKept : Obligations.IndicesAgreeKept :=
  kept_of_parts (fun _ _ => indicesAgree_queueMove) fun _ _ => indicesAgree_part

/-! ### The ranges of decode (R2, R147) -/

/-- A notice queue that reads in no more ranges than another: disabled, or enabled with the same configuration. -/
def SameRanges (n m : NoticeUnit) : Prop :=
  m.enabled = true → n.enabled = true ∧ m.base = n.base ∧ m.slots = n.slots ∧ m.returnAddress = n.returnAddress

/-- Decode entries that are kept or become absent leave the ranges apart. -/
theorem windowsApart_shrink {s t : State} (h : WindowsApart s)
    (window : ∀ r, t.window r = none ∨ t.window r = s.window r) (notices : SameRanges s.notices t.notices) :
    WindowsApart t := by
  have old : ∀ {r d}, t.window r = some d → s.window r = some d := fun {r d} hd => by
    obtain e | e := window r
    · rw [e] at hd
      cases hd
    · rw [← e, hd]
  refine ⟨fun r r' d d' b ne hd hd' => h.rings r r' d d' b ne (old hd) (old hd'), fun r d b on hd hb => ?_,
    fun b on => ?_⟩
  · obtain ⟨on', base, slots, word⟩ := notices on
    simp only [inNoticeWindow, inReturnWord, base, slots, word]
    exact h.notices r d b on' (old hd) hb
  · obtain ⟨on', base, slots, word⟩ := notices on
    simp only [inNoticeWindow, inReturnWord, base, slots, word]
    exact h.word b on'

theorem windowsApart_same {s t : State} (h : WindowsApart s) (decode : t.decode = s.decode)
    (notices : t.notices = s.notices) : WindowsApart t :=
  windowsApart_shrink h (fun r => .inr (by simp only [State.window, decode]))
    fun on => by rw [notices] at on ⊢; exact ⟨on, rfl, rfl, rfl⟩

theorem windowsApart_queueMove {s t : State} (h : WindowsApart s) (m : QueueMove s t) : WindowsApart t := by
  have kept : ∀ r, s.window r = none ∨ s.window r = s.window r := fun _ => .inr rfl
  cases m with
  | quiet q => exact windowsApart_same h q.decode q.notices
  | readRemoved | readCreated | headBackoffEnded | readBackoffEnded | readsFreed | slotFreed | fetchEnded |
      headWaits => exact windowsApart_same h rfl rfl
  | headIssued => exact windowsApart_same h (by simp) (by simp)
  | readIssued e => exact windowsApart_same h (by simp) (by simp)
  | headRaised => exact windowsApart_same h (by simp) (by simp)
  | indexReturned | noticeLeft | noticeHeadChanged =>
    exact windowsApart_shrink h kept fun on => ⟨on, rfl, rfl, rfl⟩
  | noticeIssued =>
    refine windowsApart_shrink h (fun r => .inr (by simp [State.window])) fun on => ?_
    unfold State.issueNotice at on ⊢
    split at on <;> exact ⟨on, rfl, rfl, rfl⟩
  | noticesDisabled => exact windowsApart_shrink h kept fun on => nomatch on
  | noticesConfigured base word code off =>
    exact windowsApart_shrink h kept fun on => absurd (off.symm.trans on) (by decide)
  | noticesEnabled off slot valid apart =>
    have clear : ¬ noticeConfigOverlaps s := by
      rw [← noticeOverlaps_iff, apart]
      decide
    obtain ⟨-, -, -, word⟩ := (noticeUnit_valid_iff s.notices).1 valid
    exact ⟨h.rings, fun r d b _ hd hb => not_or.1 fun inside => clear ⟨b, r, d, hd, hb, inside⟩,
      fun b _ inside => word ⟨b, inside⟩⟩

/-- A ring that becomes ACTIVE overlaps no decoded range (R147, R148). -/
theorem windowsApart_activate {s : State} (h : WindowsApart s) {r : RingNo} (apart : s.enableOverlaps r = false) :
    WindowsApart (s.activate r) := by
  have clear : ¬ configOverlaps s r := by
    rw [← enableOverlaps_iff, apart]
    decide
  have window : ∀ {r' d}, (s.activate r).window r' = some d →
      (r' = r ∧ d = (s.cfg r).decodeEntry) ∨ (r' ≠ r ∧ s.window r' = some d) := by
    intro r' d hd
    have hd : (s.decode.set r (some (s.cfg r).decodeEntry))[r'] = some d := hd
    rw [getElem_set_fin] at hd
    split at hd
    · next e =>
      cases hd
      exact .inl ⟨e, rfl⟩
    · next e => exact .inr ⟨e, hd⟩
  refine ⟨fun r1 r2 d1 d2 b ne h1 h2 ⟨b1, b2⟩ => ?_, fun r1 d b on h1 hb => ?_, h.word⟩
  · obtain ⟨rfl, rfl⟩ | ⟨n1, w1⟩ := window h1 <;> obtain ⟨rfl, rfl⟩ | ⟨n2, w2⟩ := window h2
    · exact ne rfl
    · exact clear ⟨b, b1, .inl ⟨r2, d2, w2, b2⟩⟩
    · exact clear ⟨b, b2, .inl ⟨r1, d1, w1, b1⟩⟩
    · exact h.rings r1 r2 d1 d2 b ne w1 w2 ⟨b1, b2⟩
  · obtain ⟨rfl, rfl⟩ | ⟨-, w1⟩ := window h1
    · exact not_or.1 fun inside => clear ⟨b, hb, .inr inside⟩
    · exact h.notices r1 d b on w1 hb

theorem windowsApart_none {t : State} (window : ∀ r, t.window r = none) (word : ∀ b, t.notices.enabled = true →
    ¬ (inNoticeWindow t.notices b ∧ inReturnWord t.notices b)) : WindowsApart t :=
  ⟨fun r _ _ _ _ _ hd => by simp [window r] at hd, fun r _ _ _ hd => by simp [window r] at hd, word⟩

theorem windowsApart_part {s t : State} (h : WindowsApart s) (m : Part s t) : WindowsApart t := by
  have absent : ∀ r : RingNo, (Vector.replicate 8 (none : Option DecodeEntry))[r] = none := by simp
  cases m with
  | ringSide k =>
    obtain ⟨q, -, -, grown⟩ := k.notices
    exact windowsApart_shrink h k.window fun on => by
      rw [grown] at on ⊢
      exact ⟨on, rfl, rfl, rfl⟩
  | joined | readsFreed | headEnded | slotLost | headRetired => exact windowsApart_same h rfl rfl
  | poweredOn ma => exact windowsApart_none absent nofun
  | activated r valid apart => exact windowsApart_activate h apart
  | datapathReset => exact windowsApart_none absent h.word
  | ticked => exact windowsApart_shrink h (fun _ => .inr rfl) fun on => ⟨on, rfl, rfl, rfl⟩

/-- Settles O56: ENABLE and NOTICE_ENABLE alone bring a range into decode, and each first finds that it meets none. -/
theorem windowsApartKept : Obligations.WindowsApartKept :=
  kept_of_parts (fun _ _ => windowsApart_queueMove) fun _ _ => windowsApart_part

end Sys2Proof.Whole
end

section
/-! The agreement of the rings, their sectors and the queue over every step: what one sector has to agree with, and a
state that agrees but for one sector, on which the transitions of that sector are built. -/

namespace Sys2Proof.Whole

open Sys2Proof.Machine Sys2Proof.Safety Sys2Proof.Laws

/-! ### The moves of the queue on the rings' side -/

/-- The two states agree on the rings, their sectors and what the entries of the queue are; a read entry is one that
was there, or has a place that fits; and a head that is to be retired still is in flight (R90). -/
structure QueueSide (s t : State) : Prop where
  decode : t.decode = s.decode
  config : t.config = s.config
  rings : ∀ r, RingAlike (s.ring r) (t.ring r)
  sectors : t.sectors = s.sectors
  kinds : t.pwq.map QueueEntry.kind = s.pwq.map QueueEntry.kind
  reads : ∀ e ∈ t.reads, (∃ x ∈ s.reads, x.request = e.request ∧ x.tag = e.tag) ∨ TagFits s e.request e.tag
  head : (s.headIsPurged = true → s.headIssue = .inFlight) → t.headIsPurged = true → t.headIssue = .inFlight

theorem headIsPurged_congr {s t : State} (kinds : t.pwq.map QueueEntry.kind = s.pwq.map QueueEntry.kind)
    (records : ∀ r i, (t.record r i).state = (s.record r i).state) : t.headIsPurged = s.headIsPurged := by
  unfold State.headIsPurged
  cases ht : t.pwq with
  | nil =>
    rw [ht, List.map_nil, eq_comm, List.map_eq_nil_iff] at kinds
    rw [kinds]
  | cons e q =>
    cases hs : s.pwq with
    | nil => rw [ht, hs] at kinds; cases kinds
    | cons e' q' =>
      rw [ht, hs, List.map_cons, List.map_cons, List.cons.injEq] at kinds
      simp only [kinds.1]
      split <;> simp only [records]

theorem headIsPurged_same {s t : State} (pwq : t.pwq = s.pwq) (sectors : t.sectors = s.sectors) :
    t.headIsPurged = s.headIsPurged :=
  headIsPurged_congr (by rw [pwq]) fun r i => by simp only [State.record, sectors]

/-- A change of neither the rings, their sectors nor the queue, which keeps or frees reads. -/
theorem QueueSide.of_eq {s t : State} (decode : t.decode = s.decode) (config : t.config = s.config)
    (rings : ∀ r, RingAlike (s.ring r) (t.ring r)) (sectors : t.sectors = s.sectors) (pwq : t.pwq = s.pwq)
    (reads : ∀ e ∈ t.reads, ∃ x ∈ s.reads, x.request = e.request ∧ x.tag = e.tag)
    (head : t.headIssue = s.headIssue) : QueueSide s t where
  decode := decode
  config := config
  rings := rings
  sectors := sectors
  kinds := by rw [pwq]
  reads e he := .inl (reads e he)
  head h p := by
    rw [headIsPurged_same pwq sectors] at p
    rw [head, h p]

theorem reads_same (l : List ReadEntry) : ∀ e ∈ l, ∃ x ∈ l, x.request = e.request ∧ x.tag = e.tag :=
  fun e he => ⟨e, he, rfl, rfl⟩

theorem reads_map {f : ReadEntry → ReadEntry} (hf : ∀ e, (f e).request = e.request ∧ (f e).tag = e.tag)
    (l : List ReadEntry) : ∀ e ∈ l.map f, ∃ x ∈ l, x.request = e.request ∧ x.tag = e.tag := by
  intro e he
  obtain ⟨x, hx, rfl⟩ := List.mem_map.1 he
  exact ⟨x, hx, (hf x).1.symm, (hf x).2.symm⟩

theorem reads_update {f : ReadEntry → ReadEntry} (hf : ∀ e, (f e).request = e.request ∧ (f e).tag = e.tag)
    (k : ReadRequest) (l : List ReadEntry) :
    ∀ e ∈ l.map (fun e => if e.request = k then f e else e), ∃ x ∈ l, x.request = e.request ∧ x.tag = e.tag :=
  reads_map (fun e => by split <;> simp [hf]) l

theorem reads_filter (p : ReadEntry → Bool) (l : List ReadEntry) :
    ∀ e ∈ l.filter p, ∃ x ∈ l, x.request = e.request ∧ x.tag = e.tag :=
  fun e he => ⟨e, (List.mem_filter.1 he).1, rfl, rfl⟩

theorem rings_same (s : State) : ∀ r, RingAlike (s.ring r) (s.ring r) := fun _ => .refl _

theorem finish_named {f : ReadEntry → ReadEntry} (answers : Answers f) (q : List QueueEntry) (e : ReadEntry) :
    (e.finish q f).request = e.request ∧ (e.finish q f).tag = e.tag := by
  unfold ReadEntry.finish
  split <;> first | exact ⟨rfl, rfl⟩ | exact ⟨answers.request e, answers.tag e⟩

theorem endBackoff_named (e : ReadEntry) : e.endBackoff.request = e.request ∧ e.endBackoff.tag = e.tag := by
  unfold ReadEntry.endBackoff
  split <;> exact ⟨rfl, rfl⟩

theorem QueueMove.queueSide {s t : State} (m : QueueMove s t) : QueueSide s t := by
  cases m with
  | quiet q =>
    exact .of_eq q.decode q.config q.rings q.sectors q.pwq (by rw [q.reads]; exact reads_same _) q.headIssue
  | indexReturned | slotFreed | noticeLeft | noticeHeadChanged | noticesEnabled | noticesDisabled |
      noticesConfigured => exact .of_eq rfl rfl (rings_same s) rfl rfl (reads_same _) rfl
  | readRemoved | readsFreed => exact .of_eq rfl rfl (rings_same s) rfl rfl (reads_filter _ _) rfl
  | readCreated k tag place fresh fits =>
    refine ⟨rfl, rfl, rings_same s, rfl, rfl, fun e he => ?_, fun h p => h p⟩
    obtain he | he := List.mem_append.1 he
    · exact .inl ⟨e, he, rfl, rfl⟩
    · rw [List.mem_singleton.1 he]
      exact .inr fits
  | headIssued eligible =>
    obtain ⟨held, -⟩ := (queueEligible_iff s).1 eligible
    obtain ⟨e, q, hq⟩ := List.exists_cons_of_ne_nil held
    have issue : s.issueHead = { s with
        headIssue := .inFlight
        link := { s.link with
          writeSlot := .occupied .queueHead
          request := some (.write e.address e.words) } } := by
      simp only [State.issueHead, hq]
    rw [issue]
    exact ⟨rfl, rfl, rings_same s, rfl, rfl, fun e he => .inl ⟨e, he, rfl, rfl⟩, fun _ _ => rfl⟩
  | readIssued e =>
    unfold State.issueRead
    extract_lets issued
    have named := reads_update (f := fun x => { x with phase := .issued false }) (fun _ => ⟨rfl, rfl⟩) e.request s.reads
    split <;> exact .of_eq rfl rfl (rings_same s) rfl rfl named rfl
  | noticeIssued =>
    unfold State.issueNotice
    split <;> exact .of_eq rfl rfl (rings_same s) rfl rfl (reads_same _) rfl
  | headRaised =>
    have kinds : s.raiseHeadAttempts.pwq.map QueueEntry.kind = s.pwq.map QueueEntry.kind := by
      unfold State.raiseHeadAttempts
      split <;> simp [*]
    have rest : s.raiseHeadAttempts.config = s.config ∧ s.raiseHeadAttempts.rings = s.rings ∧
        s.raiseHeadAttempts.sectors = s.sectors := by
      unfold State.raiseHeadAttempts
      split <;> exact ⟨rfl, rfl, rfl⟩
    obtain ⟨config, rings, sectors⟩ := rest
    refine ⟨by simp, config, fun r => ?_, sectors, kinds, ?_, fun h p => ?_⟩
    · simp only [State.ring, rings]
      exact .refl _
    · rw [raiseHeadAttempts_reads]
      exact fun e he => .inl ⟨e, he, rfl, rfl⟩
    · rw [headIsPurged_congr kinds fun r i => by simp only [State.record, sectors]] at p
      rw [raiseHeadAttempts_headIssue, h p]
  | headWaits slot keeps =>
    refine ⟨rfl, rfl, rings_same s, rfl, rfl, fun e he => .inl ⟨e, he, rfl, rfl⟩, fun _ p => ?_⟩
    rw [headIsPurged_same (s := s) (t := (s.freeSlot 0).headBackoff) rfl rfl, keeps] at p
    cases p
  | fetchEnded tag k f hold answers =>
    exact .of_eq rfl rfl (rings_same s) rfl rfl (reads_update (finish_named answers _) k s.reads) rfl
  | headBackoffEnded waits =>
    refine ⟨rfl, rfl, rings_same s, rfl, rfl, fun e he => .inl ⟨e, he, rfl, rfl⟩, fun h p => ?_⟩
    have := h p
    rw [waits] at this
    cases this
  | readBackoffEnded k =>
    exact .of_eq rfl rfl (rings_same s) rfl rfl (reads_update endBackoff_named k s.reads) rfl

/-- The generation of a notice is a move on the queue's side. -/
theorem QueueSide.generate (s : State) (n : Notice) : QueueSide s (s.generate n) := by
  have outside := SameOutside.generate s n
  obtain ⟨decode, sectors⟩ := generate_kept s n
  refine .of_eq decode outside.config (fun r => ?_) sectors outside.pwq ?_ outside.headIssue
  · obtain ⟨c, g, h⟩ := generate_ring s n r
    rw [h]
    exact ⟨rfl, rfl, rfl, rfl⟩
  · rw [outside.reads]
    exact reads_same _

/-! ### One sector beside its ring and the queue -/

/-- What the agreement of rings and sectors reads of a runtime record. -/
structure RingSteady (x y : RingState) : Prop where
  lifecycle : y.lifecycle = x.lifecycle
  fillPointer : y.fillPointer = x.fillPointer
  fillState : y.fillState = x.fillState

theorem RingSteady.refl (x : RingState) : RingSteady x x := ⟨rfl, rfl, rfl⟩

theorem RingAlike.steady {x y : RingState} (h : RingAlike x y) : RingSteady x y :=
  ⟨h.lifecycle, h.fillPointer, h.fillState⟩

/-- A record agrees with its ring and the queue: the pending count (R22), and where its state may stand (R20, R27,
R30). -/
structure SectorAgrees (n : Nat) (y : RingState) (i : SectorNo) (x : SectorRecord) : Prop where
  count : x.pending = n
  filling : x.state = .filling ↔ y.fillState = .opened ∧ i = y.fillPointer
  off : y.lifecycle = .off → x.state = .free
  purging : y.lifecycle = .purging → x.state = .free ∨ x.state = .purging
  purged : x.state = .purging → y.lifecycle = .purging

/-- A decode entry and a runtime record agree with the ring's configuration (R3, R27, R54, R146). -/
structure RingAgrees (d : Option DecodeEntry) (c : RingConfig) (y : RingState) : Prop where
  decoded : d.isSome = true ↔ y.lifecycle ≠ .off
  copied : ∀ e, d = some e → e = c.decodeEntry ∧ c.valid = true
  off : y.lifecycle = .off → y.fillState = .idle
  purging : y.lifecycle = .purging → y.fillState = .idle

/-- The record of a sector agrees and its pending count fits its state. -/
def sectorRight (s : State) (r : RingNo) (i : SectorNo) : Prop :=
  SectorAgrees (taggedCount s.pwq r i) (s.ring r) i (s.record r i) ∧ pendingFits (s.record r i)

/-- The rings, and every sector but one, agree. -/
structure ConsistentBut (r : RingNo) (i : SectorNo) (s : State) : Prop where
  rings : ∀ r, RingAgrees (s.window r) (s.cfg r) (s.ring r)
  others : ∀ r' i', (r', i') ≠ (r, i) → sectorRight s r' i'

theorem consistent_iff (s : State) : Consistent s ↔
    (∀ r, RingAgrees (s.window r) (s.cfg r) (s.ring r)) ∧ ∀ r i, sectorRight s r i := by
  constructor
  · intro h
    exact ⟨fun r => ⟨h.decoded r, h.copied r, fun o => (h.off r o).1, fun p => (h.purging r p).1⟩,
      fun r i => ⟨⟨h.counts r i, h.filling r i, fun o => (h.off r o).2 i, fun p => (h.purging r p).2 i,
        h.purged r i⟩, h.fits r i⟩⟩
  · rintro ⟨rings, sectors⟩
    exact ⟨fun r i => (sectors r i).1.count, fun r i => (sectors r i).2, fun r => (rings r).decoded,
      fun r => (rings r).copied, fun r i => (sectors r i).1.filling,
      fun r o => ⟨(rings r).off o, fun i => (sectors r i).1.off o⟩,
      fun r p => ⟨(rings r).purging p, fun i => (sectors r i).1.purging p⟩, fun r i => (sectors r i).1.purged⟩

theorem consistent_of_but {s : State} {r : RingNo} {i : SectorNo} (h : ConsistentBut r i s)
    (own : sectorRight s r i) : Consistent s := by
  refine (consistent_iff s).2 ⟨h.rings, fun r' i' => ?_⟩
  by_cases e : (r', i') = (r, i)
  · cases e
    exact own
  · exact h.others r' i' e

theorem consistent_but {s : State} (h : Consistent s) (r : RingNo) (i : SectorNo) : ConsistentBut r i s :=
  ⟨((consistent_iff s).1 h).1, fun r' i' _ => ((consistent_iff s).1 h).2 r' i'⟩

theorem consistent_sector {s : State} (h : Consistent s) (r : RingNo) (i : SectorNo) : sectorRight s r i :=
  ((consistent_iff s).1 h).2 r i

theorem RingAgrees.steady {d : Option DecodeEntry} {c : RingConfig} {x y : RingState} (h : RingAgrees d c x)
    (k : RingSteady x y) : RingAgrees d c y :=
  ⟨by rw [k.lifecycle]; exact h.decoded, h.copied, by rw [k.lifecycle, k.fillState]; exact h.off,
    by rw [k.lifecycle, k.fillState]; exact h.purging⟩

theorem SectorAgrees.steady {n : Nat} {x y : RingState} {i : SectorNo} {z : SectorRecord} (h : SectorAgrees n x i z)
    (k : RingSteady x y) : SectorAgrees n y i z :=
  ⟨h.count, by rw [k.fillState, k.fillPointer]; exact h.filling, by rw [k.lifecycle]; exact h.off,
    by rw [k.lifecycle]; exact h.purging, by rw [k.lifecycle]; exact h.purged⟩

/-- The two states agree, as the law reads them, but for one sector. -/
structure SameBut (r : RingNo) (i : SectorNo) (s t : State) : Prop where
  window : ∀ r, t.window r = s.window r
  cfg : ∀ r, t.cfg r = s.cfg r
  rings : ∀ r, RingSteady (s.ring r) (t.ring r)
  records : ∀ r' i', (r', i') ≠ (r, i) → t.record r' i' = s.record r' i'
  counts : ∀ r' i', (r', i') ≠ (r, i) → taggedCount t.pwq r' i' = taggedCount s.pwq r' i'

theorem ConsistentBut.congr {r : RingNo} {i : SectorNo} {s t : State} (h : ConsistentBut r i s)
    (k : SameBut r i s t) : ConsistentBut r i t where
  rings r := by
    rw [k.window, k.cfg]
    exact (h.rings r).steady (k.rings r)
  others r' i' ne := by
    unfold sectorRight
    rw [k.records r' i' ne, k.counts r' i' ne]
    exact ⟨(h.others r' i' ne).1.steady (k.rings r'), (h.others r' i' ne).2⟩

theorem taggedCount_kinds {q q' : List QueueEntry} (h : q'.map QueueEntry.kind = q.map QueueEntry.kind) (r : RingNo)
    (i : SectorNo) : taggedCount q' r i = taggedCount q r i := by
  have key : ∀ l : List QueueEntry,
      taggedCount l r i = (l.map QueueEntry.kind).countP fun k => decide (tagOf k = some (r, i)) := by
    intro l
    simp [taggedCount, List.countP_map, Function.comp_def]
  rw [key, key, h]

theorem consistent_queueSide {s t : State} (h : Consistent s) (k : QueueSide s t) : Consistent t := by
  have record : ∀ r i, t.record r i = s.record r i := fun r i => by simp only [State.record, k.sectors]
  have same : SameBut 0 0 s t := ⟨fun r => by simp only [State.window, k.decode],
    fun r => by simp only [State.cfg, k.config], fun r => (k.rings r).steady, fun r i _ => record r i,
    fun r i _ => taggedCount_kinds k.kinds r i⟩
  refine consistent_of_but ((consistent_but h 0 0).congr same) ?_
  unfold sectorRight
  rw [record, taggedCount_kinds k.kinds]
  exact ⟨(consistent_sector h 0 0).1.steady (same.rings 0), (consistent_sector h 0 0).2⟩

/-! ### Counting the entries of a sector -/

theorem taggedCount_append (q : List QueueEntry) (e : QueueEntry) (r : RingNo) (i : SectorNo) :
    taggedCount (q ++ [e]) r i = taggedCount q r i + if tagOf e.kind = some (r, i) then 1 else 0 := by
  simp [taggedCount, List.countP_append, List.countP_cons]

theorem taggedCount_cons (q : List QueueEntry) (e : QueueEntry) (r : RingNo) (i : SectorNo) :
    taggedCount (e :: q) r i = taggedCount q r i + if tagOf e.kind = some (r, i) then 1 else 0 := by
  simp [taggedCount, List.countP_cons]

/-! ### Updates read back -/

theorem setRing_ring (s : State) (r r' : RingNo) (x : RingState) :
    (s.setRing r x).ring r' = if r' = r then x else s.ring r' := withRing_ring s r r' x

theorem setRecord_record (s : State) (r r' : RingNo) (i i' : SectorNo) (x : SectorRecord) :
    (s.setRecord r i x).record r' i' = if r' = r ∧ i' = i then x else s.record r' i' :=
  withRecord_record s r r' i i' x

theorem setRecord_record_of_ne (s : State) {r r' : RingNo} {i i' : SectorNo} (x : SectorRecord)
    (h : (r', i') ≠ (r, i)) : (s.setRecord r i x).record r' i' = s.record r' i' := by
  rw [setRecord_record, if_neg]
  rintro ⟨rfl, rfl⟩
  exact h rfl

theorem SameBut.setRecord (s : State) (r : RingNo) (i : SectorNo) (x : SectorRecord) :
    SameBut r i s (s.setRecord r i x) :=
  ⟨fun _ => rfl, fun _ => rfl, fun _ => .refl _, fun _ _ ne => setRecord_record_of_ne s x ne, fun _ _ _ => rfl⟩

theorem SameBut.trans {r : RingNo} {i : SectorNo} {s t u : State} (h : SameBut r i s t) (k : SameBut r i t u) :
    SameBut r i s u :=
  ⟨fun r => (k.window r).trans (h.window r), fun r => (k.cfg r).trans (h.cfg r),
    fun r => ⟨(k.rings r).lifecycle.trans (h.rings r).lifecycle, (k.rings r).fillPointer.trans (h.rings r).fillPointer,
      (k.rings r).fillState.trans (h.rings r).fillState⟩,
    fun r' i' ne => (k.records r' i' ne).trans (h.records r' i' ne),
    fun r' i' ne => (k.counts r' i' ne).trans (h.counts r' i' ne)⟩

theorem SameBut.setRing {s : State} {r : RingNo} {x : RingState} (h : RingSteady (s.ring r) x) (r₀ : RingNo)
    (i₀ : SectorNo) : SameBut r₀ i₀ s (s.setRing r x) where
  window _ := rfl
  cfg _ := rfl
  rings r' := by
    rw [setRing_ring]
    split
    · next e => exact e ▸ h
    · exact .refl _
  records _ _ _ := rfl
  counts _ _ _ := rfl

theorem SameBut.of_queueSide {s t : State} (k : QueueSide s t) (r : RingNo) (i : SectorNo) : SameBut r i s t :=
  ⟨fun r => by simp only [State.window, k.decode], fun r => by simp only [State.cfg, k.config],
    fun r => (k.rings r).steady, fun r i _ => by simp only [State.record, k.sectors],
    fun r i _ => taggedCount_kinds k.kinds r i⟩

theorem Quiet.queueSide {s t : State} (h : Quiet s t) : QueueSide s t := (QueueMove.quiet h).queueSide

/-! ### The ways to OFF -/

theorem turnOff_ring (s : State) (r r' : RingNo) (t : NoticeType) :
    RingAlike (if r' = r then { s.ring r with lifecycle := .off } else s.ring r') ((s.turnOff r t).ring r') := by
  have k := (QueueSide.generate
    ({ s.setRing r { s.ring r with lifecycle := .off } with decode := s.decode.set r none } : State)
    (s.offNotice r t)).rings r'
  rwa [show State.ring { s.setRing r { s.ring r with lifecycle := .off } with decode := s.decode.set r none } r' = _
    from setRing_ring s r r' _] at k

theorem turnOff_record (s : State) (r r' : RingNo) (t : NoticeType) (i : SectorNo) :
    (s.turnOff r t).record r' i = s.record r' i := by
  simp only [State.record, (turnOff_kept s r t).2]

theorem turnOff_window (s : State) (r r' : RingNo) (t : NoticeType) :
    (s.turnOff r t).window r' = if r' = r then none else s.window r' := by
  simp only [State.window, (turnOff_kept s r t).1, getElem_set_fin]

/-- A ring that is IDLE with every sector FREE may turn OFF (R27). -/
theorem consistent_turnOff {s : State} (h : Consistent s) {r : RingNo} (idle : (s.ring r).fillState = .idle)
    (free : ∀ i, (s.record r i).state = .free) (t : NoticeType) : Consistent (s.turnOff r t) := by
  have outside := SameOutside.turnOff s r t
  refine (consistent_iff _).2 ⟨fun r' => ?_, fun r' i => ?_⟩
  · rw [turnOff_window]
    have alike := (turnOff_ring s r r' t).steady
    rw [show (s.turnOff r t).cfg r' = s.cfg r' by simp only [State.cfg, outside.config]]
    split at alike
    · next e =>
      subst e
      rw [if_pos rfl]
      exact RingAgrees.steady (x := { s.ring r' with lifecycle := .off })
        ⟨by simp, nofun, fun _ => idle, nofun⟩ alike
    · next e =>
      rw [if_neg e]
      exact (((consistent_iff s).1 h).1 r').steady alike
  · unfold sectorRight
    rw [turnOff_record, outside.pwq]
    have alike := (turnOff_ring s r r' t).steady
    obtain ⟨agrees, fits⟩ := consistent_sector h r' i
    refine ⟨?_, fits⟩
    split at alike
    · next e =>
      subst e
      have isFree := free i
      exact SectorAgrees.steady (x := { s.ring r' with lifecycle := .off }) ⟨agrees.count, by simp [isFree, idle], fun _ => isFree, fun _ => .inl isFree,
        fun p => by simp [isFree] at p⟩ alike
    · exact agrees.steady alike

theorem consistent_stopTest {s : State} (h : Consistent s) (r : RingNo) : Consistent (s.stopTest r) := by
  obtain ⟨-, idle, free, e⟩ | ⟨-, e⟩ := stopTest_cases s r <;> rw [e]
  · exact consistent_turnOff h idle ((allFree_iff s r).1 free) _
  · exact h

theorem consistent_purgeTest {s : State} (h : Consistent s) (r : RingNo) : Consistent (s.purgeTest r) := by
  obtain ⟨purging, free, e⟩ | ⟨-, e⟩ := purgeTest_cases s r <;> rw [e]
  · exact consistent_turnOff h (h.purging r purging).1 ((allFree_iff s r).1 free) _
  · exact h

/-! ### A sector settles (R17, R19, R21) -/

/-- What the pending count may be before the sector settles: a count of 0 is still to be taken up. -/
def pendingMayFit (x : SectorRecord) : Prop :=
  match x.state with
  | .free => x.pending = 0
  | .ready => x.pending = 0
  | .releasing => x.pending ≤ 1
  | .filling => True
  | .closing => True
  | .purging => True

/-- The record of a sector that settles agrees, but for the transition that a count of 0 is to bring. -/
theorem consistent_settle {s : State} {r : RingNo} {i : SectorNo} (h : ConsistentBut r i s)
    (own : SectorAgrees (taggedCount s.pwq r i) (s.ring r) i (s.record r i))
    (fits : pendingMayFit (s.record r i)) : Consistent (s.settle r i) := by
  have changed : ∀ st : SectorState, (s.record r i).pending = 0 → st ≠ .filling → (s.record r i).state ≠ .filling →
      ((s.ring r).lifecycle = .off → st = .free) → ((s.ring r).lifecycle = .purging → st = .free) →
      (st = .free ∨ st = .ready) → Consistent (s.setRecord r i { s.record r i with state := st }) := by
    intro st zero hst hx off purging stable
    refine consistent_of_but (h.congr (.setRecord s r i _)) ?_
    unfold sectorRight
    rw [setRecord_record_same]
    refine ⟨⟨own.count, ?_, off, fun p => .inl (purging p), fun p => ?_⟩, ?_⟩
    · exact ⟨fun f => absurd f hst, fun f => absurd (own.filling.2 f) hx⟩
    · rcases stable with rfl | rfl <;> cases p
    · rcases stable with rfl | rfl <;> exact zero
  obtain ⟨zero, closing, e⟩ | ⟨zero, releasing, e⟩ | ⟨zero, purging, e⟩ | ⟨settled, e⟩ := settle_cases s r i <;> rw [e]
  · have ready := changed .ready zero (by decide) (by simp [closing])
      (fun off => by have := own.off off; rw [closing] at this; cases this)
      (fun p => by have := own.purging p; rw [closing] at this; obtain c | c := this <;> cases c) (.inr rfl)
    have counted : Consistent ((s.setRecord r i { s.record r i with state := .ready }).setRing r
        (s.ring r).countDelivered) :=
      consistent_queueSide ready (Quiet.queueSide (Quiet.setRing (s := s.setRecord r i _) (RingAlike.of_counters _ _)))
    obtain ⟨t, rfl, ⟨-, e⟩ | ⟨-, e⟩⟩ := becomeReady_cases s r i <;> rw [e]
    · exact consistent_queueSide counted (.generate _ _)
    · exact counted
  · exact consistent_stopTest (changed .free zero (by decide) (by simp [releasing]) (fun _ => rfl) (fun _ => rfl)
      (.inl rfl)) r
  · exact consistent_purgeTest (changed .free zero (by decide) (by simp [purging]) (fun _ => rfl) (fun _ => rfl)
      (.inl rfl)) r
  · refine consistent_of_but h ⟨own, ?_⟩
    unfold pendingFits
    unfold pendingMayFit at fits
    cases st : (s.record r i).state <;> simp only [st] at fits settled ⊢
    case free | ready => exact fits
    all_goals simp only [reduceCtorEq, or_false] at settled
    all_goals omega

/-! ### Departures (R86 to R90) -/

/-- The departure of a head with a tag is that of an entry of its sector. -/
theorem popHead_tagged {s : State} {e : QueueEntry} {q : List QueueEntry} (lost : Bool) {r : RingNo} {i : SectorNo}
    (hq : s.pwq = e :: q) (tag : tagOf e.kind = some (r, i)) :
    ∃ l, s.popHead lost = (s.dropHead.reportLost lost).leaveSector r i l := by
  rw [popHead_cons s lost hq]
  cases hk : e.kind <;> rw [hk] at tag <;> cases tag
  · exact ⟨lost, rfl⟩
  · exact ⟨lost, rfl⟩
  · exact ⟨false, rfl⟩

theorem popHead_pass {s : State} {e : QueueEntry} {q : List QueueEntry} (lost : Bool) (hq : s.pwq = e :: q)
    (tag : tagOf e.kind = none) : s.popHead lost = s.dropHead.reportLost lost := by
  rw [popHead_cons s lost hq]
  cases hk : e.kind <;> rw [hk] at tag <;> first | rfl | cases tag

theorem Quiet.reportLost (s : State) (lost : Bool) : Quiet s (s.reportLost lost) := by
  unfold State.reportLost
  split
  · exact (Quiet.setCounters _ _).trans (Quiet.post _ _)
  · exact .refl s

/-- A departure loses no pending count but that of the head's own sector. -/
theorem sameBut_dropHead {s : State} {e : QueueEntry} {q : List QueueEntry} (hq : s.pwq = e :: q) (r : RingNo)
    (i : SectorNo) (tag : tagOf e.kind = none ∨ tagOf e.kind = some (r, i)) (lost : Bool) :
    SameBut r i s (s.dropHead.reportLost lost) := by
  refine .trans (t := s.dropHead) ⟨fun _ => rfl, fun _ => rfl, fun _ => .refl _, fun _ _ _ => rfl, fun r' i' ne => ?_⟩
    (.of_queueSide (Quiet.reportLost _ lost).queueSide r i)
  show taggedCount s.pwq.tail r' i' = _
  rw [hq, taggedCount_cons, List.tail_cons, if_neg, Nat.add_zero]
  rcases tag with tag | tag <;> rw [tag]
  · simp
  · exact fun same => ne (Option.some.inj same).symm

theorem reportLost_record (s : State) (lost : Bool) (r : RingNo) (i : SectorNo) :
    (s.reportLost lost).record r i = s.record r i := by
  unfold State.reportLost
  split <;> rfl

theorem pwq_reportLost (s : State) (lost : Bool) : (s.reportLost lost).pwq = s.pwq := (Quiet.reportLost s lost).pwq

/-- The departure of a head leaves the rings, sectors and queue in agreement (R22, R86). -/
theorem consistent_popHead {s : State} (h : Consistent s) (lost : Bool) : Consistent (s.popHead lost) := by
  cases hq : s.pwq with
  | nil => rwa [popHead_nil s lost hq]
  | cons e q =>
    cases tag : tagOf e.kind with
    | none =>
      rw [popHead_pass lost hq tag]
      have same := sameBut_dropHead hq 0 0 (.inl tag) lost
      have counts : taggedCount (s.dropHead.reportLost lost).pwq 0 0 = taggedCount s.pwq 0 0 := by
        rw [pwq_reportLost]
        show taggedCount s.pwq.tail 0 0 = _
        rw [hq, taggedCount_cons, List.tail_cons, tag]
        rfl
      refine consistent_of_but ((consistent_but h 0 0).congr same) ?_
      unfold sectorRight
      rw [counts, reportLost_record]
      exact ⟨(consistent_sector h 0 0).1.steady (same.rings 0), (consistent_sector h 0 0).2⟩
    | some ri =>
      obtain ⟨r, i⟩ := ri
      obtain ⟨l, e'⟩ := popHead_tagged lost hq tag
      rw [e']
      have same := sameBut_dropHead hq r i (.inr tag) lost
      obtain ⟨own, fits⟩ := consistent_sector h r i
      have one : taggedCount s.pwq r i = taggedCount q r i + 1 := by rw [hq, taggedCount_cons, if_pos tag]
      refine consistent_settle ((consistent_but h r i).congr (same.trans (.setRecord _ r i _))) ?_ ?_
      all_goals rw [setRecord_record_same, reportLost_record]
      · refine SectorAgrees.steady ⟨?_, own.filling, own.off, own.purging, own.purged⟩ (same.rings r)
        rw [setRecord_pwq, pwq_reportLost]
        show (s.record r i).pending - 1 = taggedCount s.pwq.tail r i
        rw [own.count, one, hq]
        rfl
      · show pendingMayFit { s.record r i with pending := (s.record r i).pending - 1, flags := _ }
        unfold pendingFits at fits
        unfold pendingMayFit
        have count := own.count
        dsimp only
        cases st : (s.record r i).state <;> simp only [st] at fits ⊢ <;> omega

theorem consistent_retire {s : State} (h : Consistent s) : Consistent s.retire :=
  retire_induct h fun _ ht _ _ => consistent_popHead ht false

/-! ### Writes and closes -/

/-- The close of the ring's message or shadow, but for the sector at the fill pointer (R29). -/
theorem consistentBut_advance {s : State} (h : Consistent s) (r : RingNo) :
    ConsistentBut r (s.ring r).fillPointer (s.advanceRing r) where
  rings r' := by
    have agrees := ((consistent_iff s).1 h).1 r'
    show RingAgrees (s.window r') (s.cfg r') ((s.setRing r _).ring r')
    rw [setRing_ring]
    split
    · next e =>
      subst e
      exact ⟨agrees.decoded, agrees.copied, fun _ => rfl, fun _ => rfl⟩
    · exact agrees
  others r' i' ne := by
    obtain ⟨agrees, fits⟩ := consistent_sector h r' i'
    refine ⟨?_, fits⟩
    show SectorAgrees (taggedCount s.pwq r' i') ((s.setRing r _).ring r') i' (s.record r' i')
    rw [setRing_ring]
    split
    · next e =>
      subst e
      have other : (s.record r' i').state ≠ .filling := fun f => ne (by rw [(agrees.filling.1 f).2])
      exact ⟨agrees.count, ⟨fun f => absurd f other, fun f => by simp [RingState.advance] at f⟩, agrees.off,
        agrees.purging, agrees.purged⟩
    · exact agrees

theorem advanceRing_ring_same (s : State) (r : RingNo) :
    (s.advanceRing r).ring r = (s.ring r).advance (s.cfg r).sectorCount.toNat := setRing_ring_same _ _ _

/-- A ring with an open message is neither OFF nor PURGING (R27, R54). -/
theorem consistent_open_serves {s : State} (h : Consistent s) {r : RingNo} (opened : (s.ring r).fillState ≠ .idle) :
    (s.ring r).lifecycle ≠ .off ∧ (s.ring r).lifecycle ≠ .purging :=
  ⟨fun off => opened (h.off r off).1, fun purging => opened (h.purging r purging).1⟩

theorem consistent_closeOpen {s : State} (h : Consistent s) {r : RingNo} (opened : (s.ring r).fillState = .opened)
    (mark : SectorFlags → SectorFlags) : Consistent (s.closeOpen r mark) := by
  obtain ⟨notOff, notPurging⟩ := consistent_open_serves h (r := r) (by simp [opened])
  have count := (consistent_sector h r (s.ring r).fillPointer).1.count
  unfold State.closeOpen
  extract_lets i x
  refine consistent_settle (s := (s.advanceRing r).setRecord r i _)
    ((consistentBut_advance h r).congr (.setRecord _ r i _)) ?_ ?_
  all_goals rw [setRecord_record_same]
  · show SectorAgrees _ ((s.advanceRing r).ring r) i _
    rw [advanceRing_ring_same]
    exact ⟨count, by simp [RingState.advance], fun off => absurd off notOff, fun p => absurd p notPurging, nofun⟩
  · trivial

theorem consistent_endShadow {s : State} (h : Consistent s) {r : RingNo} (shadow : (s.ring r).fillState ≠ .opened) :
    Consistent (s.advanceRing r) := by
  refine consistent_of_but (consistentBut_advance h r) ?_
  obtain ⟨agrees, fits⟩ := consistent_sector h r (s.ring r).fillPointer
  refine ⟨?_, fits⟩
  rw [advanceRing_ring_same]
  have still : (s.record r (s.ring r).fillPointer).state ≠ .filling := fun f => shadow (agrees.filling.1 f).1
  exact ⟨agrees.count, ⟨fun f => absurd f still, fun f => by simp [RingState.advance] at f⟩, agrees.off,
    agrees.purging, agrees.purged⟩

theorem consistent_closeCurrent {s : State} (h : Consistent s) (r : RingNo) (mark : SectorFlags → SectorFlags) :
    Consistent (s.closeCurrent r mark) := by
  unfold State.closeCurrent
  split
  · next opened => exact consistent_stopTest (consistent_closeOpen h opened mark) r
  · next shadow => exact consistent_stopTest (consistent_endShadow h (by simp [shadow])) r
  · exact h

theorem restartTimer_steady (x : RingState) (timeout : BitVec 16) : RingSteady x (x.restartTimer timeout) := by
  unfold RingState.restartTimer
  split <;> exact ⟨rfl, rfl, rfl⟩

/-- A tagged write joins the queue, and no pending count is behind but that of its own sector (R22). -/
theorem sameBut_enqueue {s : State} {e : QueueEntry} {r : RingNo} {i : SectorNo} (tag : tagOf e.kind = some (r, i)) :
    SameBut r i s (s.enqueue e) := by
  refine ⟨fun _ => rfl, fun _ => rfl, fun _ => .refl _, fun _ _ _ => rfl, fun r' i' ne => ?_⟩
  show taggedCount (s.pwq ++ [e]) r' i' = _
  rw [taggedCount_append, if_neg, Nat.add_zero]
  rw [tag]
  exact fun same => ne (Option.some.inj same).symm

/-- The sector of a write that joins counts one more entry. -/
theorem taggedCount_enqueue {s : State} {e : QueueEntry} {r : RingNo} {i : SectorNo} (tag : tagOf e.kind = some (r, i)) :
    taggedCount (s.enqueue e).pwq r i = taggedCount s.pwq r i + 1 := by
  rw [enqueue_pwq, taggedCount_append, if_pos tag]

theorem consistent_storeWrite {s : State} (h : Consistent s) {r : RingNo} (w : Nat) (q : WriteRequest)
    (opened : (s.ring r).fillState = .opened) : Consistent (s.storeWrite r w q) := by
  obtain ⟨notOff, notPurging⟩ := consistent_open_serves h (r := r) (by simp [opened])
  obtain ⟨agrees, fits⟩ := consistent_sector h r (s.ring r).fillPointer
  have filling := agrees.filling.2 ⟨opened, rfl⟩
  unfold State.storeWrite
  extract_lets i x
  split
  · refine consistent_queueSide ?_ (Quiet.answerAccept _).queueSide
    have same : ∀ y e, tagOf e.kind = some (r, i) →
        SameBut r i s (((s.setRecord r i y).restartRingTimer r).enqueue e) := fun y e tag =>
      ((SameBut.setRecord s r i y).trans (.setRing (restartTimer_steady _ _) r i)).trans (sameBut_enqueue tag)
    refine consistent_of_but ((consistent_but h r i).congr (same _ _ rfl)) ⟨?_, ?_⟩
    · refine SectorAgrees.steady ?_ ((same _ _ rfl).rings r)
      rw [taggedCount_enqueue rfl, enqueue_record]
      show SectorAgrees _ _ i ((s.setRecord r i _).record r i)
      rw [setRecord_record_same]
      exact ⟨congrArg (· + 1) agrees.count, agrees.filling, agrees.off, agrees.purging, agrees.purged⟩
    · rw [enqueue_record]
      show pendingFits ((s.setRecord r i _).record r i)
      rw [setRecord_record_same]
      simp only [pendingFits, x, i, filling]
  · refine consistent_queueSide (consistent_stopTest ?_ r) (Quiet.answerAccept _).queueSide
    refine consistent_of_but (s := State.enqueue ((s.advanceRing r).setRecord r i _) _)
      ((consistentBut_advance h r).congr ((SameBut.setRecord _ r i _).trans (sameBut_enqueue rfl))) ⟨?_, ?_⟩
    · rw [taggedCount_enqueue rfl, enqueue_record, setRecord_record_same]
      show SectorAgrees _ ((s.advanceRing r).ring r) i _
      rw [advanceRing_ring_same]
      exact ⟨congrArg (· + 1) agrees.count, by simp [RingState.advance], fun off => absurd off notOff,
        fun p => absurd p notPurging, nofun⟩
    · rw [enqueue_record, setRecord_record_same]
      exact Nat.succ_pos _

/-- The opening of a sector (R12, R35). -/
theorem consistent_openSector {s : State} (h : Consistent s) {r : RingNo} (window : (s.window r).isSome = true)
    (notPurging : (s.ring r).lifecycle ≠ .purging) (idle : (s.ring r).fillState = .idle)
    (free : (s.record r (s.ring r).fillPointer).state = .free) : Consistent (s.openSector r) := by
  have notOff := (h.decoded r).1 window
  have ring : ∀ r', (s.openSector r).ring r' = if r' = r then
      { s.ring r with nextSeq := (s.ring r).nextSeq + 1, fillState := .opened } else s.ring r' :=
    fun r' => setRing_ring _ r r' _
  refine (consistent_iff _).2 ⟨fun r' => ?_, fun r' i' => ?_⟩
  · have agrees := ((consistent_iff s).1 h).1 r'
    show RingAgrees (s.window r') (s.cfg r') ((s.openSector r).ring r')
    rw [ring]
    split
    · next e =>
      subst e
      exact ⟨agrees.decoded, agrees.copied, fun off => absurd off notOff, fun p => absurd p notPurging⟩
    · exact agrees
  · obtain ⟨agrees, fits⟩ := consistent_sector h r' i'
    unfold sectorRight
    rw [ring, show (s.openSector r).record r' i' = _ from setRecord_record s r r' _ i' _,
      show (s.openSector r).pwq = s.pwq from rfl]
    by_cases e : r' = r
    · subst e
      rw [if_pos rfl]
      by_cases own : i' = (s.ring r').fillPointer
      · rw [if_pos ⟨rfl, own⟩]
        subst own
        exact ⟨⟨agrees.count, by simp, fun off => absurd off notOff, fun p => absurd p notPurging, nofun⟩, trivial⟩
      · rw [if_neg (fun c => own c.2)]
        have other : (s.record r' i').state ≠ .filling := fun f => own (agrees.filling.1 f).2
        exact ⟨⟨agrees.count, ⟨fun f => absurd f other, fun f => absurd f.2 own⟩, agrees.off, agrees.purging,
          agrees.purged⟩, fits⟩
    · rw [if_neg e, if_neg (fun c => e c.1)]
      exact ⟨agrees, fits⟩

theorem consistent_shadowWrite {s : State} (h : Consistent s) {r : RingNo} (w : Nat) (q : WriteRequest)
    (shadow : (s.ring r).fillState = .shadow) : Consistent (s.shadowWrite r w q) := by
  unfold State.shadowWrite
  split
  · refine consistent_queueSide ?_ (Quiet.answerAccept _).queueSide
    have same : SameBut r 0 s (s.restartRingTimer r) := .setRing (restartTimer_steady _ _) r 0
    exact consistent_of_but ((consistent_but h r 0).congr same) ⟨(consistent_sector h r 0).1.steady (same.rings r), (consistent_sector h r 0).2⟩
  · exact consistent_queueSide (consistent_stopTest (consistent_endShadow h (r := r) (by simp [shadow])) r) (Quiet.answerAccept _).queueSide

theorem consistent_beginShadow {s : State} (h : Consistent s) {r : RingNo} (window : (s.window r).isSome = true)
    (notPurging : (s.ring r).lifecycle ≠ .purging) (idle : (s.ring r).fillState = .idle) :
    Consistent (s.beginShadow r) := by
  have notOff := (h.decoded r).1 window
  have ring : ∀ r', (s.beginShadow r).ring r' = if r' = r then Producer.shadowRing (s.ring r) else s.ring r' :=
    fun r' => setRing_ring _ r r' _
  refine (consistent_iff _).2 ⟨fun r' => ?_, fun r' i' => ?_⟩
  · have agrees := ((consistent_iff s).1 h).1 r'
    show RingAgrees (s.window r') (s.cfg r') ((s.beginShadow r).ring r')
    rw [ring]
    split
    · next e =>
      subst e
      exact ⟨agrees.decoded, agrees.copied, fun off => absurd off notOff, fun p => absurd p notPurging⟩
    · exact agrees
  · obtain ⟨agrees, fits⟩ := consistent_sector h r' i'
    refine ⟨?_, fits⟩
    rw [ring]
    show SectorAgrees (taggedCount s.pwq r' i') _ i' (s.record r' i')
    split
    · next e =>
      subst e
      have other : (s.record r' i').state ≠ .filling := fun f => by
        have := (agrees.filling.1 f).1
        rw [idle] at this
        cases this
      exact ⟨agrees.count, ⟨fun f => absurd f other, fun f => by simp [Producer.shadowRing] at f⟩, agrees.off,
        agrees.purging, agrees.purged⟩
    · exact agrees

/-- A release of a READY sector (R18, R63). -/
theorem consistent_release {s : State} (h : Consistent s) {r : RingNo} {i : SectorNo} (q : WriteRequest)
    (ready : (s.record r i).state = .ready) (room : s.pwq.length < 32) : Consistent (s.release r i q) := by
  obtain ⟨agrees, fits⟩ := consistent_sector h r i
  have none : (s.record r i).pending = 0 := by simpa only [pendingFits, ready] using fits
  have notOff : (s.ring r).lifecycle ≠ .off := fun off => by
    have := agrees.off off
    rw [ready] at this
    cases this
  have notPurging : (s.ring r).lifecycle ≠ .purging := fun p => by
    have := agrees.purging p
    rw [ready] at this
    obtain c | c := this <;> cases c
  have other : ¬ ((s.ring r).fillState = .opened ∧ i = (s.ring r).fillPointer) := fun f => by
    have := agrees.filling.2 f
    rw [ready] at this
    cases this
  have space : s.hasRoom = true := decide_eq_true room
  simp only [State.release, if_pos ready, if_pos space]
  refine consistent_queueSide ?_ (Quiet.answerAccept _).queueSide
  have freed : ∀ t : State, SameBut r i t (t.freeReads (s.readInSector r i)) := fun t =>
    .of_queueSide (QueueMove.readsFreed t _).queueSide r i
  refine consistent_of_but
    ((consistent_but h r i).congr (((SameBut.setRecord s r i _).trans (freed _)).trans (sameBut_enqueue rfl))) ⟨?_, ?_⟩
  · rw [taggedCount_enqueue rfl, enqueue_record, freeReads_record, setRecord_record_same]
    exact ⟨congrArg (· + 1) agrees.count, ⟨nofun, fun f => absurd f other⟩, fun off => absurd off notOff,
      fun p => absurd p notPurging, nofun⟩
  · rw [enqueue_record, freeReads_record, setRecord_record_same]
    simp only [pendingFits, none]

/-! ### Commands -/

theorem decode_set_window (s : State) (r r' : RingNo) (d : Option DecodeEntry) :
    (s.decode.set r d)[r'] = if r' = r then d else s.window r' := getElem_set_fin _ _ _ _

theorem activate_record (s : State) (r r' : RingNo) (i : SectorNo) :
    (s.activate r).record r' i = if r' = r then {} else s.record r' i := by
  show (s.sectors.set r (Vector.replicate 32 {}))[r'][i] = _
  rw [getElem_set_fin]
  split
  · simp
  · rfl

/-- ENABLE of an OFF ring with a valid configuration (R10, R28, R148). -/
theorem consistent_activate {s : State} (h : Consistent s) {r : RingNo} (off : (s.ring r).lifecycle = .off)
    (valid : (s.cfg r).valid = true) : Consistent (s.activate r) := by
  have window : ∀ r', (s.activate r).window r' = if r' = r then some (s.cfg r).decodeEntry else s.window r' :=
    fun r' => getElem_set_fin _ _ _ _
  have ring : ∀ r', (s.activate r).ring r' = if r' = r then (s.ring r).start else s.ring r' :=
    fun r' => getElem_set_fin _ _ _ _
  have record := activate_record s r
  have empty : ∀ i, taggedCount s.pwq r i = 0 := fun i => by
    have free := (h.off r off).2 i
    have fits := h.fits r i
    simp only [pendingFits, free] at fits
    rw [← h.counts r i, fits]
  refine (consistent_iff _).2 ⟨fun r' => ?_, fun r' i => ?_⟩
  · show RingAgrees _ (s.cfg r') _
    rw [window, ring]
    split
    · next e =>
      subst e
      exact ⟨by simp [RingState.start], fun d hd => by cases hd; exact ⟨rfl, valid⟩, fun _ => rfl, fun _ => rfl⟩
    · exact ((consistent_iff s).1 h).1 r'
  · unfold sectorRight
    rw [ring, record]
    show SectorAgrees (taggedCount s.pwq r' i) _ i _ ∧ _
    split
    · next e =>
      subst e
      exact ⟨⟨(empty i).symm, by simp [RingState.start], fun _ => rfl, fun _ => .inl rfl, nofun⟩, rfl⟩
    · exact consistent_sector h r' i

/-- STOP of an ACTIVE ring, before its test (R150). -/
theorem consistent_stopping {s : State} (h : Consistent s) {r : RingNo} (active : (s.ring r).lifecycle = .active) :
    Consistent (s.setRing r { s.ring r with lifecycle := .stopping }) := by
  refine (consistent_iff _).2 ⟨fun r' => ?_, fun r' i => ?_⟩
  · have agrees := ((consistent_iff s).1 h).1 r'
    show RingAgrees (s.window r') (s.cfg r') _
    rw [setRing_ring]
    split
    · next e =>
      subst e
      exact ⟨agrees.decoded.trans (by simp [active]), agrees.copied, nofun, nofun⟩
    · exact agrees
  · obtain ⟨agrees, fits⟩ := consistent_sector h r' i
    refine ⟨?_, fits⟩
    show SectorAgrees (taggedCount s.pwq r' i) _ i (s.record r' i)
    rw [setRing_ring]
    split
    · next e =>
      subst e
      exact ⟨agrees.count, agrees.filling, nofun, nofun, fun p => by
        have := agrees.purged p
        rw [active] at this
        cases this⟩
    · exact agrees

theorem purgeRing_ring (s : State) (r r' : RingNo) : (s.purgeRing r).ring r' =
    if r' = r then { s.ring r with lifecycle := .purging, fillState := .idle, fillTimer := none } else s.ring r' :=
  getElem_set_fin _ _ _ _

theorem purgeRing_record (s : State) (r r' : RingNo) (i : SectorNo) : (s.purgeRing r).record r' i =
    if r' = r then (s.record r i).purge else s.record r' i := by
  show (s.sectors.set r (s.sectors[r].map SectorRecord.purge))[r'][i] = _
  rw [getElem_set_fin]
  split
  · simp [State.record]
  · rfl

/-- A purged record: FREE where no write of it is queued, and PURGING otherwise (R20, R21). -/
theorem purge_cases (x : SectorRecord) :
    (x.purge.state = .free ∧ (x.state = .free ∨ x.pending = 0)) ∨
      (x.purge.state = .purging ∧ x.state ≠ .free ∧ 0 < x.pending) := by
  unfold SectorRecord.purge
  split
  · next h => exact .inl ⟨rfl, h⟩
  · next h =>
    obtain ⟨notFree, some⟩ := not_or.1 h
    exact .inr ⟨rfl, notFree, Nat.pos_of_ne_zero some⟩

theorem purge_pending (x : SectorRecord) : x.purge.pending = x.pending := by
  unfold SectorRecord.purge
  split <;> rfl

/-- PURGE of a ring that serves requests, before its test (R20, R54, R152). -/
theorem consistent_purgeRing {s : State} (h : Consistent s) {r : RingNo} (serving : serves s r) :
    Consistent (s.purgeRing r) := by
  refine (consistent_iff _).2 ⟨fun r' => ?_, fun r' i => ?_⟩
  · have agrees := ((consistent_iff s).1 h).1 r'
    show RingAgrees (s.window r') (s.cfg r') _
    rw [purgeRing_ring]
    split
    · next e =>
      subst e
      refine ⟨agrees.decoded.trans ?_, agrees.copied, nofun, fun _ => rfl⟩
      rcases serving with l | l <;> simp [l]
    · exact agrees
  · obtain ⟨agrees, fits⟩ := consistent_sector h r' i
    unfold sectorRight
    rw [purgeRing_ring, purgeRing_record]
    show SectorAgrees (taggedCount s.pwq r' i) _ i _ ∧ _
    split
    · next e =>
      subst e
      have count : (s.record r' i).purge.pending = taggedCount s.pwq r' i := (purge_pending _).trans agrees.count
      obtain ⟨free, why⟩ | ⟨purging, -, some⟩ := purge_cases (s.record r' i)
      · refine ⟨⟨count, by simp [free], nofun, fun _ => .inl free, fun _ => rfl⟩, ?_⟩
        simp only [pendingFits, free, purge_pending]
        obtain was | zero := why
        · simpa only [pendingFits, was] using fits
        · exact zero
      · refine ⟨⟨count, by simp [purging], nofun, fun _ => .inr purging, fun _ => rfl⟩, ?_⟩
        simpa only [pendingFits, purging, purge_pending] using some
    · exact ⟨agrees, fits⟩

/-- Every ring OFF, every record cleared and the queue empty. -/
theorem consistent_cleared {t : State} (window : ∀ r, t.window r = none) (rings : ∀ r, t.ring r = {})
    (records : ∀ r i, t.record r i = {}) (queue : t.pwq = []) : Consistent t := by
  refine (consistent_iff t).2 ⟨fun r => ?_, fun r i => ?_⟩
  · rw [window, rings]
    exact ⟨by simp, nofun, fun _ => rfl, fun _ => rfl⟩
  · unfold sectorRight
    rw [rings, records, queue]
    exact ⟨⟨rfl, by simp, fun _ => rfl, fun _ => .inl rfl, nofun⟩, rfl⟩

theorem consistent_configured {s : State} (h : Consistent s) {r : RingNo} (c : RingConfig)
    (off : (s.ring r).lifecycle = .off) : Consistent { s with config := s.config.set r c } := by
  refine (consistent_iff _).2 ⟨fun r' => ?_, ((consistent_iff s).1 h).2⟩
  have agrees := ((consistent_iff s).1 h).1 r'
  refine ⟨agrees.decoded, fun d hd => ?_, agrees.off, agrees.purging⟩
  have cfg : State.cfg { s with config := s.config.set r c } r' = if r' = r then c else s.cfg r' := getElem_set_fin _ _ _ _
  rw [cfg]
  split
  · next e =>
    subst e
    have decoded := agrees.decoded.1 (Option.isSome_iff_exists.2 ⟨d, hd⟩)
    exact absurd off decoded
  · exact agrees.copied d hd

theorem consistent_enqueue_pass {s : State} (h : Consistent s) {e : QueueEntry} (kind : e.kind = .pass) :
    Consistent (s.enqueue e) := by
  have count : ∀ r i, taggedCount (s.enqueue e).pwq r i = taggedCount s.pwq r i := fun r i => by
    rw [enqueue_pwq, taggedCount_append, kind]
    rfl
  refine (consistent_iff _).2 ⟨((consistent_iff s).1 h).1, fun r i => ?_⟩
  unfold sectorRight
  rw [count]
  exact consistent_sector h r i

theorem tick_ring (s : State) (r : RingNo) : s.tick.ring r = (s.ring r).tick := by
  simp [State.ring, State.tick]

theorem consistent_tick {s : State} (h : Consistent s) : Consistent s.tick := by
  refine (consistent_iff _).2 ⟨fun r => ?_, fun r i => ?_⟩
  · rw [tick_ring]
    exact (((consistent_iff s).1 h).1 r).steady ⟨rfl, rfl, rfl⟩
  · unfold sectorRight
    rw [tick_ring]
    exact ⟨(consistent_sector h r i).1.steady ⟨rfl, rfl, rfl⟩, (consistent_sector h r i).2⟩

theorem consistent_ringMove {s t : State} (h : Consistent s) (m : RingMove s t) : Consistent t := by
  cases m with
  | passJoined e kind => exact consistent_enqueue_pass h kind
  | messageStored r w q opened => exact consistent_storeWrite h w q opened
  | messageOpened r w q window notPurging notStopping idle free =>
    exact consistent_storeWrite (consistent_openSector h window notPurging idle free) w q
      (by simp [State.openSector])
  | shadowBegun r w q window notPurging notStopping idle =>
    exact consistent_shadowWrite (consistent_beginShadow h window notPurging idle) w q (by simp [State.beginShadow])
  | shadowContinued r w q shadow => exact consistent_shadowWrite h w q shadow
  | released r i q ready room => exact consistent_release h q ready room
  | headDeparted lost slot =>
    have freed : Consistent (s.freeSlot 0) :=
      consistent_queueSide h (.of_eq rfl rfl (rings_same s) rfl rfl (reads_same _) rfl)
    exact consistent_retire (consistent_popHead freed lost)
  | messageClosed r mark => exact consistent_closeCurrent h r mark
  | poweredOn ma =>
    refine consistent_cleared (fun r => ?_) (fun r => ?_) (fun r i => ?_) rfl
    · simp [State.window, State.powerOn, State.reset]
    · simp [State.ring, State.powerOn, State.reset]
    · simp [State.record, State.powerOn, State.reset]
  | activated r off valid => exact consistent_activate h off valid
  | stopped r active => exact consistent_stopTest (consistent_stopping h active) r
  | purged r serving => exact consistent_retire (consistent_purgeTest (consistent_purgeRing h serving) r)
  | datapathReset =>
    refine consistent_cleared (fun r => ?_) (fun r => ?_) (fun r i => ?_) rfl
    · simp [State.window, State.resetDatapath]
    · simp [State.ring, State.resetDatapath]
    · simp [State.record, State.resetDatapath]
  | ringConfigured r c off => exact consistent_configured h c off
  | ticked => exact consistent_tick h

theorem consistent_move {s t : State} (h : Consistent s) (m : Move s t) : Consistent t :=
  m.elim (fun q => consistent_queueSide h q.queueSide) (consistent_ringMove h)

/-- Settles O51: a sector that changes is made to agree again before the move ends, and the others are left. -/
theorem consistentKept : Obligations.ConsistentKept := fun _ _ h hstep =>
  Moves.keep (fun _ _ => consistent_move) h (step_moves hstep)

end Sys2Proof.Whole
end

section
/-! The fill timers over every step: what one ring's timer has to fit, and the moves that leave the timers alone. -/

namespace Sys2Proof.Whole

open Sys2Proof.Machine Sys2Proof.Safety Sys2Proof.Laws

/-! ### One ring -/

/-- The fill timer of a ring runs exactly while a message or a shadow is open under a timeout, and its fill pointer
names one of its sectors while it is not OFF (R28, R48). -/
structure RingTimed (c : RingConfig) (x : RingState) : Prop where
  running : x.fillTimer.isSome = true ↔ (x.fillState ≠ .idle ∧ c.fillTimeout ≠ 0)
  interval : ∀ n, x.fillTimer = some n → n ≤ 16 * c.fillTimeout.toNat
  pointed : x.lifecycle ≠ .off → x.fillPointer.val < c.sectorCount.toNat

theorem timersRun_iff (s : State) : TimersRun s ↔ ∀ r, RingTimed (s.cfg r) (s.ring r) :=
  ⟨fun h r => ⟨h.running r, h.interval r, h.pointed r⟩,
    fun h => ⟨fun r => (h r).running, fun r => (h r).interval, fun r => (h r).pointed⟩⟩

/-- What the timer of a ring fits before the write that opens a message or a shadow starts it (R48). -/
structure RingOpening (c : RingConfig) (x : RingState) : Prop where
  stopped : c.fillTimeout = 0 → x.fillTimer = none
  pointed : x.lifecycle ≠ .off → x.fillPointer.val < c.sectorCount.toNat

theorem RingTimed.opening {c : RingConfig} {x : RingState} (h : RingTimed c x) : RingOpening c x where
  stopped zero := by
    cases timer : x.fillTimer with
    | none => rfl
    | some n => exact absurd zero (h.running.1 (by rw [timer]; rfl)).2
  pointed := h.pointed

/-- An IDLE ring has no timer running. -/
theorem RingTimed.stopped_of_idle {c : RingConfig} {x : RingState} (h : RingTimed c x) (idle : x.fillState = .idle) :
    x.fillTimer = none := by
  cases timer : x.fillTimer with
  | none => rfl
  | some n => exact absurd idle (h.running.1 (by rw [timer]; rfl)).1

/-- The timer that starts again fits (R48). -/
theorem RingOpening.restart {c : RingConfig} {x : RingState} (h : RingOpening c x) (opened : x.fillState ≠ .idle) :
    RingTimed c (x.restartTimer c.fillTimeout) := by
  unfold RingState.restartTimer
  split
  · next zero => exact ⟨by simp [h.stopped zero, zero], by simp [h.stopped zero], h.pointed⟩
  · next some => exact ⟨by simp only [Option.isSome_some, ne_eq, opened, some, not_false_eq_true, and_self], by simp, h.pointed⟩

/-- A close stops the timer and moves the fill pointer to a sector of the ring (R29). -/
theorem RingTimed.advance {c : RingConfig} (x : RingState) (valid : c.valid = true) :
    RingTimed c (x.advance c.sectorCount.toNat) := by
  obtain ⟨-, atLeast, -⟩ := (ringConfig_valid_iff c).1 valid
  refine ⟨by simp [RingState.advance], nofun, fun _ => ?_⟩
  calc (x.advance c.sectorCount.toNat).fillPointer.val
      = (x.fillPointer.val + 1) % c.sectorCount.toNat % 32 := rfl
    _ ≤ (x.fillPointer.val + 1) % c.sectorCount.toNat := Nat.mod_le _ _
    _ < c.sectorCount.toNat := Nat.mod_lt _ (by omega)

/-! ### Moves that leave the timers alone -/

/-- A runtime record that is kept but for its lifecycle, which stays or becomes OFF. -/
structure RingFades (x y : RingState) : Prop where
  lifecycle : y.lifecycle = x.lifecycle ∨ y.lifecycle = .off
  fillPointer : y.fillPointer = x.fillPointer
  fillState : y.fillState = x.fillState
  fillTimer : y.fillTimer = x.fillTimer

theorem RingAlike.fades {x y : RingState} (h : RingAlike x y) : RingFades x y :=
  ⟨.inl h.lifecycle, h.fillPointer, h.fillState, h.fillTimer⟩

theorem RingFades.trans {x y z : RingState} (h : RingFades x y) (k : RingFades y z) : RingFades x z :=
  ⟨k.lifecycle.elim (fun e => e ▸ h.lifecycle) .inr, k.fillPointer.trans h.fillPointer,
    k.fillState.trans h.fillState, k.fillTimer.trans h.fillTimer⟩

theorem RingTimed.fades {c : RingConfig} {x y : RingState} (h : RingTimed c x) (k : RingFades x y) : RingTimed c y where
  running := by rw [k.fillTimer, k.fillState]; exact h.running
  interval := by rw [k.fillTimer]; exact h.interval
  pointed notOff := by
    rw [k.fillPointer]
    exact h.pointed fun off => notOff (k.lifecycle.elim (fun e => e.trans off) id)

/-- The rings are left alone, but for those that become OFF. -/
structure Fades (s t : State) : Prop where
  config : t.config = s.config
  rings : ∀ r, RingFades (s.ring r) (t.ring r)

theorem Fades.refl (s : State) : Fades s s := ⟨rfl, fun _ => (RingAlike.refl _).fades⟩

theorem Fades.trans {s t u : State} (h : Fades s t) (k : Fades t u) : Fades s u :=
  ⟨k.config.trans h.config, fun r => (h.rings r).trans (k.rings r)⟩

theorem QueueSide.fades {s t : State} (h : QueueSide s t) : Fades s t := ⟨h.config, fun r => (h.rings r).fades⟩

theorem Quiet.fades {s t : State} (h : Quiet s t) : Fades s t := h.queueSide.fades

theorem Fades.of_eq {s t : State} (config : t.config = s.config) (rings : t.rings = s.rings) : Fades s t :=
  ⟨config, fun r => by simp only [State.ring, rings]; exact (RingAlike.refl _).fades⟩

theorem Fades.setRecord (s : State) (r : RingNo) (i : SectorNo) (x : SectorRecord) : Fades s (s.setRecord r i x) :=
  .of_eq rfl rfl

theorem Fades.turnOff (s : State) (r : RingNo) (t : NoticeType) : Fades s (s.turnOff r t) := by
  refine ⟨(SameOutside.turnOff s r t).config, fun r' => ?_⟩
  have alike := (turnOff_ring s r r' t).fades
  split at alike
  · next e =>
    subst e
    exact .trans (y := { s.ring r' with lifecycle := .off }) ⟨.inr rfl, rfl, rfl, rfl⟩ alike
  · exact alike

theorem Fades.stopTest (s : State) (r : RingNo) : Fades s (s.stopTest r) := by
  obtain ⟨-, -, -, h⟩ | ⟨-, h⟩ := stopTest_cases s r <;> rw [h]
  · exact .turnOff s r _
  · exact .refl s

theorem Fades.purgeTest (s : State) (r : RingNo) : Fades s (s.purgeTest r) := by
  obtain ⟨-, -, h⟩ | ⟨-, h⟩ := purgeTest_cases s r <;> rw [h]
  · exact .turnOff s r _
  · exact .refl s

theorem Fades.becomeReady (s : State) (r : RingNo) (i : SectorNo) : Fades s (s.becomeReady r i) := by
  have counted : Fades s ((s.setRecord r i { s.record r i with state := .ready }).setRing r
      (s.ring r).countDelivered) :=
    (Fades.setRecord _ _ _ _).trans
      (Quiet.fades (Quiet.setRing (s := s.setRecord r i _) (RingAlike.of_counters _ _)))
  obtain ⟨t, rfl, ⟨-, h⟩ | ⟨-, h⟩⟩ := becomeReady_cases s r i <;> rw [h]
  · exact counted.trans (QueueSide.generate _ _).fades
  · exact counted

theorem Fades.settle (s : State) (r : RingNo) (i : SectorNo) : Fades s (s.settle r i) := by
  obtain ⟨-, -, h⟩ | ⟨-, -, h⟩ | ⟨-, -, h⟩ | ⟨-, h⟩ := settle_cases s r i <;> rw [h]
  · exact .becomeReady s r i
  · exact (Fades.setRecord _ _ _ _).trans (.stopTest _ _)
  · exact (Fades.setRecord _ _ _ _).trans (.purgeTest _ _)
  · exact .refl s

theorem Fades.popHead (s : State) (lost : Bool) : Fades s (s.popHead lost) := by
  have dropped : Fades s (s.dropHead.reportLost lost) :=
    (Fades.of_eq (s := s) (t := s.dropHead) rfl rfl).trans (Quiet.reportLost _ lost).fades
  cases hq : s.pwq with
  | nil =>
    rw [popHead_nil s lost hq]
    exact .refl s
  | cons e q =>
    cases tag : tagOf e.kind with
    | none =>
      rw [popHead_pass lost hq tag]
      exact dropped
    | some ri =>
      obtain ⟨l, e'⟩ := popHead_tagged lost hq tag
      rw [e']
      exact (dropped.trans (.setRecord _ _ _ _)).trans (.settle _ _ _)

theorem Fades.retire (s : State) : Fades s s.retire := retire_induct (.refl s) fun _ h _ _ => h.trans (.popHead _ false)

theorem timersRun_fades {s t : State} (h : TimersRun s) (k : Fades s t) : TimersRun t := by
  refine (timersRun_iff t).2 fun r => ?_
  simp only [State.cfg, k.config]
  exact ((timersRun_iff s).1 h r).fades (k.rings r)

/-! ### Moves of one ring -/

/-- Every ring but one is timed, and that one is opening. -/
structure TimersBut (r : RingNo) (s : State) : Prop where
  opening : RingOpening (s.cfg r) (s.ring r)
  others : ∀ r', r' ≠ r → RingTimed (s.cfg r') (s.ring r')

theorem TimersBut.of_timersRun {s : State} (h : TimersRun s) (r : RingNo) : TimersBut r s :=
  ⟨((timersRun_iff s).1 h r).opening, fun r' _ => (timersRun_iff s).1 h r'⟩

/-- One ring's record is written, and times or opens. -/
theorem timersBut_setRing {s : State} {r : RingNo} {x : RingState}
    (others : ∀ r', r' ≠ r → RingTimed (s.cfg r') (s.ring r')) (own : RingOpening (s.cfg r) x) :
    TimersBut r (s.setRing r x) := by
  refine ⟨?_, fun r' ne => ?_⟩ <;> rw [setRing_ring]
  · rw [if_pos rfl]
    exact own
  · rw [if_neg ne]
    exact others r' ne

theorem timersRun_setRing {s : State} {r : RingNo} {x : RingState}
    (others : ∀ r', r' ≠ r → RingTimed (s.cfg r') (s.ring r')) (own : RingTimed (s.cfg r) x) :
    TimersRun (s.setRing r x) := by
  refine (timersRun_iff _).2 fun r' => ?_
  rw [setRing_ring]
  split
  · next e => exact e ▸ own
  · next ne => exact others r' ne

theorem timersRun_storeWrite {s : State} {r : RingNo} (h : TimersBut r s) (w : Nat) (q : WriteRequest)
    (opened : (s.ring r).fillState ≠ .idle) (valid : (s.cfg r).valid = true) : TimersRun (s.storeWrite r w q) := by
  unfold State.storeWrite
  extract_lets i x
  split
  · refine timersRun_fades (timersRun_setRing h.others (h.opening.restart opened))
      (.trans ?_ (Quiet.answerAccept _).fades)
    exact .of_eq rfl rfl
  · refine timersRun_fades (timersRun_setRing h.others (RingTimed.advance (s.ring r) valid))
      (.trans (.trans ?_ (.stopTest _ _)) (Quiet.answerAccept _).fades)
    exact .of_eq rfl rfl

theorem timersRun_shadowWrite {s : State} {r : RingNo} (h : TimersBut r s) (w : Nat) (q : WriteRequest)
    (opened : (s.ring r).fillState ≠ .idle) (valid : (s.cfg r).valid = true) : TimersRun (s.shadowWrite r w q) := by
  unfold State.shadowWrite
  split
  · exact timersRun_fades (timersRun_setRing h.others (h.opening.restart opened)) (Quiet.answerAccept _).fades
  · exact timersRun_fades (timersRun_setRing h.others (RingTimed.advance (s.ring r) valid))
      ((Fades.stopTest _ _).trans (Quiet.answerAccept _).fades)

theorem timersRun_closeCurrent {s : State} (h : TimersRun s) {r : RingNo} (mark : SectorFlags → SectorFlags)
    (valid : (s.ring r).fillState ≠ .idle → (s.cfg r).valid = true) : TimersRun (s.closeCurrent r mark) := by
  have advanced : (s.ring r).fillState ≠ .idle → TimersRun (s.advanceRing r) := fun opened =>
    timersRun_setRing (fun r' _ => (timersRun_iff s).1 h r') (RingTimed.advance (s.ring r) (valid opened))
  unfold State.closeCurrent
  split
  · next opened =>
    exact timersRun_fades (advanced (by simp [opened]))
      (((Fades.setRecord _ _ _ _).trans (.settle _ _ _)).trans (.stopTest _ _))
  · next shadow => exact timersRun_fades (advanced (by simp [shadow])) (.stopTest _ _)
  · exact h

/-- A ring that is not OFF has a valid configuration (R146). -/
theorem valid_of_not_off {s : State} (h : Consistent s) {r : RingNo} (notOff : (s.ring r).lifecycle ≠ .off) :
    (s.cfg r).valid = true := by
  obtain ⟨d, hd⟩ := Option.isSome_iff_exists.1 ((h.decoded r).2 notOff)
  exact (h.copied r d hd).2

theorem valid_of_open {s : State} (h : Consistent s) {r : RingNo} (opened : (s.ring r).fillState ≠ .idle) :
    (s.cfg r).valid = true := valid_of_not_off h (consistent_open_serves h opened).1

theorem valid_of_window {s : State} (h : Consistent s) {r : RingNo} (window : (s.window r).isSome = true) :
    (s.cfg r).valid = true := valid_of_not_off h ((h.decoded r).1 window)

/-- A ring with the starting values is timed (R28). -/
theorem RingTimed.start {c : RingConfig} (x : RingState) (valid : c.valid = true) : RingTimed c x.start := by
  obtain ⟨-, atLeast, -⟩ := (ringConfig_valid_iff c).1 valid
  exact ⟨by simp [RingState.start], nofun, fun _ => by simp [RingState.start]; omega⟩

theorem timersRun_activate {s : State} (h : TimersRun s) {r : RingNo} (valid : (s.cfg r).valid = true) :
    TimersRun (s.activate r) := by
  refine (timersRun_iff _).2 fun r' => ?_
  show RingTimed (s.cfg r') (s.rings.set r (s.ring r).start)[r']
  rw [getElem_set_fin]
  split
  · next e =>
    subst e
    exact RingTimed.start _ valid
  · exact (timersRun_iff s).1 h r'

theorem timersRun_purgeRing {s : State} (h : TimersRun s) {r : RingNo} (notOff : (s.ring r).lifecycle ≠ .off) :
    TimersRun (s.purgeRing r) := by
  refine (timersRun_iff _).2 fun r' => ?_
  show RingTimed (s.cfg r') ((s.purgeRing r).ring r')
  rw [purgeRing_ring]
  split
  · next e =>
    subst e
    exact ⟨by simp, nofun, fun _ => h.pointed r' notOff⟩
  · exact (timersRun_iff s).1 h r'

/-- Every ring with its power-on record. -/
theorem timersRun_cleared {t : State} (rings : ∀ r, t.ring r = {}) : TimersRun t := by
  refine (timersRun_iff t).2 fun r => ?_
  rw [rings]
  exact ⟨by simp, nofun, fun notOff => absurd rfl notOff⟩

/-- The configuration of an OFF ring may change: an OFF ring has no timer running (R149). -/
theorem timersRun_configured {s : State} (h : TimersRun s) (k : Consistent s) {r : RingNo} (c : RingConfig)
    (off : (s.ring r).lifecycle = .off) : TimersRun { s with config := s.config.set r c } := by
  refine (timersRun_iff _).2 fun r' => ?_
  show RingTimed (s.config.set r c)[r'] (s.ring r')
  rw [getElem_set_fin]
  split
  · next e =>
    subst e
    have idle := (k.off r' off).1
    have none := ((timersRun_iff s).1 h r').stopped_of_idle idle
    exact ⟨by simp [idle, none], by simp [none], fun notOff => absurd off notOff⟩
  · exact (timersRun_iff s).1 h r'

theorem timersRun_tick {s : State} (h : TimersRun s) : TimersRun s.tick := by
  refine (timersRun_iff _).2 fun r => ?_
  have timed := (timersRun_iff s).1 h r
  rw [tick_ring, show s.tick.cfg r = s.cfg r from rfl]
  refine ⟨?_, fun n hn => ?_, timed.pointed⟩
  · simpa [RingState.tick, countDown] using timed.running
  · obtain ⟨m, hm, rfl⟩ := Option.map_eq_some_iff.1 hn
    exact (Nat.sub_le m 1).trans (timed.interval m hm)

theorem timersRun_ringMove {s t : State} (k : Consistent s) (h : TimersRun s) (m : RingMove s t) : TimersRun t := by
  cases m with
  | passJoined e kind => exact timersRun_fades h (.of_eq rfl rfl)
  | messageStored r w q opened =>
    have busy : (s.ring r).fillState ≠ .idle := by simp [opened]
    exact timersRun_storeWrite (.of_timersRun h r) w q busy (valid_of_open k busy)
  | messageOpened r w q window =>
    have timed := TimersBut.of_timersRun h r
    have opening : TimersBut r (s.openSector r) :=
      timersBut_setRing (s := s.setRecord r _ _) timed.others ⟨timed.opening.stopped, timed.opening.pointed⟩
    exact timersRun_storeWrite opening w q (by simp [State.openSector]) (valid_of_window k window)
  | shadowBegun r w q window =>
    have timed := TimersBut.of_timersRun h r
    have opening : TimersBut r (s.beginShadow r) :=
      timersBut_setRing timed.others ⟨timed.opening.stopped, timed.opening.pointed⟩
    exact timersRun_shadowWrite opening w q (by simp [State.beginShadow]) (valid_of_window k window)
  | shadowContinued r w q shadow =>
    have busy : (s.ring r).fillState ≠ .idle := by simp [shadow]
    exact timersRun_shadowWrite (.of_timersRun h r) w q busy (valid_of_open k busy)
  | released r i q ready room =>
    refine timersRun_fades h ?_
    have space : s.hasRoom = true := decide_eq_true room
    simp only [State.release, if_pos ready, if_pos space]
    refine .trans ?_ (Quiet.answerAccept _).fades
    exact .of_eq rfl rfl
  | headDeparted lost =>
    have freed : Fades s (s.freeSlot 0) := .of_eq rfl rfl
    exact timersRun_fades h ((freed.trans (.popHead _ lost)).trans (.retire _))
  | messageClosed r mark => exact timersRun_closeCurrent h mark (valid_of_open k)
  | poweredOn ma =>
    refine timersRun_cleared fun r => ?_
    simp [State.ring, State.powerOn, State.reset]
  | activated r off valid => exact timersRun_activate h valid
  | stopped r active =>
    have timed := (timersRun_iff s).1 h r
    have pointed := timed.pointed (by simp [active])
    have stopping : RingTimed (s.cfg r) { s.ring r with lifecycle := .stopping } :=
      ⟨timed.running, timed.interval, fun _ => pointed⟩
    exact timersRun_fades (timersRun_setRing (fun r' _ => (timersRun_iff s).1 h r') stopping) (.stopTest _ _)
  | purged r serving =>
    have notOff : (s.ring r).lifecycle ≠ .off := by rcases serving with l | l <;> simp [l]
    exact timersRun_fades (timersRun_purgeRing h notOff) ((Fades.purgeTest _ _).trans (.retire _))
  | datapathReset =>
    refine timersRun_cleared fun r => ?_
    simp [State.ring, State.resetDatapath]
  | ringConfigured r c off => exact timersRun_configured h k c off
  | ticked => exact timersRun_tick h

theorem timersRun_move {s t : State} (k : Consistent s) (h : TimersRun s) (m : Move s t) : TimersRun t :=
  m.elim (fun q => timersRun_fades h q.queueSide.fades) (timersRun_ringMove k h)

/-- What every move keeps from states that agree, every step keeps. -/
theorem kept_of_consistent_moves {P : State → Prop} (move : ∀ s t, Consistent s → P s → Move s t → P t) {s t : State}
    (k : Consistent s) (h : P s) (hstep : step s = .next t) : P t :=
  (Moves.keep (P := fun s => Consistent s ∧ P s)
    (fun _ _ both m => ⟨consistent_move both.1 m, move _ _ both.1 both.2 m⟩) ⟨k, h⟩ (step_moves hstep)).2

/-- Settles O57: a write that opens a message starts the timer, a close stops it, and no other move touches it. -/
theorem timersRunKept : Obligations.TimersRunKept := fun _ _ k h hstep =>
  kept_of_consistent_moves (fun _ _ => timersRun_move) k h hstep

end Sys2Proof.Whole
end

section
/-! What a step takes at once: the rings that the tests for OFF have judged, and the head that a retirement leaves. -/

namespace Sys2Proof.Whole

open Sys2Proof.Machine Sys2Proof.Safety Sys2Proof.Laws

/-! ### The tests for OFF -/

/-- A ring fails the tests that would turn it OFF (R151, R153). -/
structure RingDrained (s : State) (r : RingNo) : Prop where
  stopping : (s.ring r).lifecycle = .stopping → (s.ring r).fillState ≠ .idle ∨ ∃ i, (s.record r i).state ≠ .free
  purging : (s.ring r).lifecycle = .purging → ∃ i, (s.record r i).state ≠ .free

theorem drained_iff {s : State} (k : Consistent s) :
    Drained s ↔ (s.headIsPurged = true → s.headIssue = .inFlight) ∧ ∀ r, RingDrained s r := by
  constructor
  · intro h
    refine ⟨h.head, fun r => ⟨h.stopping r, fun p => ?_⟩⟩
    obtain ⟨i, hi⟩ := h.purging r p
    exact ⟨i, by simp [hi]⟩
  · rintro ⟨head, rings⟩
    refine ⟨head, fun r => (rings r).stopping, fun r p => ?_⟩
    obtain ⟨i, hi⟩ := (rings r).purging p
    exact ⟨i, ((k.purging r p).2 i).resolve_left hi⟩

/-- What the tests read of a ring is left, or moves away from OFF. -/
structure RingLeft (r : RingNo) (s t : State) : Prop where
  lifecycle : (t.ring r).lifecycle = (s.ring r).lifecycle
  fillState : (t.ring r).fillState = (s.ring r).fillState
  records : ∀ i, (t.record r i).state = .free → (s.record r i).state = .free

theorem RingLeft.refl (r : RingNo) (s : State) : RingLeft r s s := ⟨rfl, rfl, fun _ => id⟩

theorem RingLeft.trans {r : RingNo} {s t u : State} (h : RingLeft r s t) (k : RingLeft r t u) : RingLeft r s u :=
  ⟨k.lifecycle.trans h.lifecycle, k.fillState.trans h.fillState, fun i f => h.records i (k.records i f)⟩

theorem RingDrained.left {r : RingNo} {s t : State} (h : RingDrained s r) (k : RingLeft r s t) : RingDrained t r where
  stopping l := by
    rw [k.fillState]
    exact (h.stopping (k.lifecycle ▸ l)).imp_right fun ⟨i, hi⟩ => ⟨i, mt (k.records i) hi⟩
  purging l := by
    obtain ⟨i, hi⟩ := h.purging (k.lifecycle ▸ l)
    exact ⟨i, mt (k.records i) hi⟩

theorem RingLeft.of_queueSide {s t : State} (h : QueueSide s t) (r : RingNo) : RingLeft r s t :=
  ⟨(h.rings r).lifecycle, (h.rings r).fillState, fun i f => by simpa only [State.record, h.sectors] using f⟩

theorem RingLeft.of_eq {s t : State} (rings : t.rings = s.rings) (sectors : t.sectors = s.sectors) (r : RingNo) :
    RingLeft r s t :=
  ⟨by simp only [State.ring, rings], by simp only [State.ring, rings],
    fun i f => by simpa only [State.record, sectors] using f⟩

theorem RingLeft.enqueue (s : State) (e : QueueEntry) (r : RingNo) : RingLeft r s (s.enqueue e) :=
  .of_eq (enqueue_rings s e) (enqueue_sectors s e) r

theorem RingLeft.setRing_of_ne (s : State) {r r' : RingNo} (x : RingState) (ne : r' ≠ r) :
    RingLeft r' s (s.setRing r x) := by
  have same : (s.setRing r x).ring r' = s.ring r' := by rw [setRing_ring, if_neg ne]
  exact ⟨by rw [same], by rw [same], fun _ => id⟩

theorem RingLeft.setRing {s : State} {r : RingNo} {x : RingState} (lifecycle : x.lifecycle = (s.ring r).lifecycle)
    (fillState : x.fillState = (s.ring r).fillState) (r' : RingNo) : RingLeft r' s (s.setRing r x) := by
  by_cases e : r' = r
  · subst e
    exact ⟨by rw [setRing_ring, if_pos rfl, lifecycle], by rw [setRing_ring, if_pos rfl, fillState], fun _ => id⟩
  · exact .setRing_of_ne s x e

/-- A record that is written, and not FREE where it was not. -/
theorem RingLeft.setRecord {s : State} {r : RingNo} {i : SectorNo} {x : SectorRecord}
    (h : x.state = .free → (s.record r i).state = .free) (r' : RingNo) : RingLeft r' s (s.setRecord r i x) := by
  refine ⟨rfl, rfl, fun i' f => ?_⟩
  rw [setRecord_record] at f
  split at f
  · next e =>
    obtain ⟨rfl, rfl⟩ := e
    exact h f
  · exact f

theorem RingLeft.setRecord_of_ne (s : State) {r r' : RingNo} (i : SectorNo) (x : SectorRecord) (ne : r' ≠ r) :
    RingLeft r' s (s.setRecord r i x) := by
  refine ⟨rfl, rfl, fun i' f => ?_⟩
  rwa [setRecord_record, if_neg fun e => ne e.1] at f

theorem RingLeft.turnOff_of_ne (s : State) {r r' : RingNo} (t : NoticeType) (ne : r' ≠ r) :
    RingLeft r' s (s.turnOff r t) := by
  have alike := turnOff_ring s r r' t
  rw [if_neg ne] at alike
  exact ⟨alike.lifecycle, alike.fillState, fun i f => by rwa [turnOff_record] at f⟩

/-- An OFF ring fails both tests. -/
theorem RingDrained.of_off {s : State} {r : RingNo} (off : (s.ring r).lifecycle = .off) : RingDrained s r :=
  ⟨fun l => by simp [off] at l, fun l => by simp [off] at l⟩

/-- A ring that serves requests and does not stop fails both tests. -/
theorem RingDrained.of_active {s : State} {r : RingNo} (active : (s.ring r).lifecycle = .active) : RingDrained s r :=
  ⟨fun l => by simp [active] at l, fun l => by simp [active] at l⟩

theorem drained_turnOff {s : State} {r : RingNo} (others : ∀ r', r' ≠ r → RingDrained s r') (t : NoticeType)
    (r' : RingNo) : RingDrained (s.turnOff r t) r' := by
  by_cases e : r' = r
  · subst e
    obtain ⟨c, g, h⟩ := turnOff_ring_same s r' t
    exact .of_off (by rw [h])
  · exact (others r' e).left (.turnOff_of_ne s t e)

theorem drained_stopTest {s : State} {r : RingNo} (others : ∀ r', r' ≠ r → RingDrained s r')
    (notPurging : (s.ring r).lifecycle ≠ .purging) (r' : RingNo) : RingDrained (s.stopTest r) r' := by
  obtain ⟨-, -, -, e⟩ | ⟨kept, e⟩ := stopTest_cases s r <;> rw [e]
  · exact drained_turnOff others _ r'
  · by_cases same : r' = r
    · subst same
      refine ⟨fun stopping => ?_, fun p => absurd p notPurging⟩
      by_contra c
      obtain ⟨idle, free⟩ := not_or.1 c
      refine kept ⟨stopping, not_not.1 idle, (allFree_iff s r').2 fun i => ?_⟩
      by_contra busy
      exact free ⟨i, busy⟩
    · exact others r' same

theorem drained_purgeTest {s : State} {r : RingNo} (others : ∀ r', r' ≠ r → RingDrained s r')
    (notStopping : (s.ring r).lifecycle ≠ .stopping) (r' : RingNo) : RingDrained (s.purgeTest r) r' := by
  obtain ⟨-, -, e⟩ | ⟨kept, e⟩ := purgeTest_cases s r <;> rw [e]
  · exact drained_turnOff others _ r'
  · by_cases same : r' = r
    · subst same
      refine ⟨fun l => absurd l notStopping, fun purging => ?_⟩
      by_contra free
      refine kept ⟨purging, (allFree_iff s r').2 fun i => ?_⟩
      by_contra busy
      exact free ⟨i, busy⟩
    · exact others r' same

theorem RingLeft.becomeReady {s : State} {r : RingNo} {i : SectorNo} (r' : RingNo) :
    RingLeft r' s (s.becomeReady r i) := by
  have counted : RingLeft r' s ((s.setRecord r i { s.record r i with state := .ready }).setRing r
      (s.ring r).countDelivered) :=
    (RingLeft.setRecord (x := { s.record r i with state := .ready }) nofun r').trans
      (.setRing (s := s.setRecord r i { s.record r i with state := .ready }) (x := (s.ring r).countDelivered)
        rfl rfl r')
  obtain ⟨t, rfl, ⟨-, h⟩ | ⟨-, h⟩⟩ := becomeReady_cases s r i <;> rw [h]
  · exact counted.trans (.of_queueSide (.generate _ _) r')
  · exact counted

/-- A settled sector leaves no ring undrained (R151, R153). -/
theorem drained_settle {s : State} {r : RingNo} {i : SectorNo} (h : ∀ r, RingDrained s r)
    (releasing : (s.record r i).state = .releasing → (s.ring r).lifecycle ≠ .purging)
    (purged : (s.record r i).state = .purging → (s.ring r).lifecycle = .purging) (r' : RingNo) :
    RingDrained (s.settle r i) r' := by
  have others : ∀ r', r' ≠ r → RingDrained (s.becomeFree r i) r' := fun r' ne => (h r').left (.setRecord_of_ne s i _ ne)
  obtain ⟨-, -, e⟩ | ⟨-, state, e⟩ | ⟨-, state, e⟩ | ⟨-, e⟩ := settle_cases s r i <;> rw [e]
  · exact (h r').left (.becomeReady r')
  · exact drained_stopTest others (releasing state) r'
  · refine drained_purgeTest others (fun l => ?_) r'
    have := (purged state).symm.trans l
    cases this
  · exact h r'

theorem drained_popHead {s : State} (k : Consistent s) (h : ∀ r, RingDrained s r) (lost : Bool) (r' : RingNo) :
    RingDrained (s.popHead lost) r' := by
  have quiet := (Quiet.reportLost s.dropHead lost)
  have left : ∀ r, RingLeft r s (s.dropHead.reportLost lost) := fun r =>
    (RingLeft.of_eq (s := s) (t := s.dropHead) rfl rfl r).trans (.of_queueSide quiet.queueSide r)
  cases hq : s.pwq with
  | nil =>
    rw [popHead_nil s lost hq]
    exact h r'
  | cons e q =>
    cases tag : tagOf e.kind with
    | none =>
      rw [popHead_pass lost hq tag]
      exact (h r').left (left r')
    | some ri =>
      obtain ⟨r, i⟩ := ri
      obtain ⟨l, e'⟩ := popHead_tagged lost hq tag
      rw [e']
      have lifecycle : ((s.dropHead.reportLost lost).ring r).lifecycle = (s.ring r).lifecycle := (left r).lifecycle
      unfold State.leaveSector
      refine drained_settle (fun r => (h r).left ((left r).trans (.setRecord ?_ r))) ?_ ?_ r'
      · exact id
      all_goals
        rw [setRecord_record_same, reportLost_record]
        intro state
      · intro purging
        have stable := (k.purging r (lifecycle.symm.trans purging)).2 i
        rw [show (s.record r i).state = _ from state] at stable
        obtain c | c := stable <;> cases c
      · exact lifecycle.trans (k.purged r i state)

/-! ### The head -/

/-- No sector has become PURGING. -/
def FewerPurging (s t : State) : Prop := ∀ r i, (t.record r i).state = .purging → (s.record r i).state = .purging

/-- The head is the same entry in the same issue state, and no sector has become PURGING. -/
structure HeadLeft (s t : State) : Prop where
  pwq : t.pwq = s.pwq
  headIssue : t.headIssue = s.headIssue
  records : FewerPurging s t

theorem HeadLeft.refl (s : State) : HeadLeft s s := ⟨rfl, rfl, fun _ _ => id⟩

theorem HeadLeft.trans {s t u : State} (h : HeadLeft s t) (k : HeadLeft t u) : HeadLeft s u :=
  ⟨k.pwq.trans h.pwq, k.headIssue.trans h.headIssue, fun r i p => h.records r i (k.records r i p)⟩

/-- No head is to be retired and waits (R90). -/
def HeadDrained (s : State) : Prop := s.headIsPurged = true → s.headIssue = .inFlight

/-- The kind of an entry is of a PURGING sector (R23). -/
def purgedKind (s : State) (k : EntryKind) : Prop :=
  (∃ r i, (k = .fill r i ∨ k = .close r i) ∧ (s.record r i).state = .purging)

theorem headIsPurged_cons {s : State} {e : QueueEntry} {q : List QueueEntry} (hq : s.pwq = e :: q) :
    s.headIsPurged = true ↔ purgedKind s e.kind := by
  simp only [State.headIsPurged, hq, purgedKind]
  cases e.kind <;> simp

theorem purgedKind_of_tag {s : State} {k : EntryKind} {r : RingNo} {i : SectorNo} (tag : tagOf k = some (r, i))
    (h : purgedKind s k) : (s.record r i).state = .purging := by
  obtain ⟨r', i', rfl | rfl, purging⟩ := h <;> cases tag <;> exact purging

theorem HeadDrained.of_kept {s t : State} (h : HeadDrained s) (issue : t.headIssue = s.headIssue)
    (purged : t.headIsPurged = true → s.headIsPurged = true) : HeadDrained t := fun p => issue.trans (h (purged p))

theorem HeadDrained.left {s t : State} (h : HeadDrained s) (k : HeadLeft s t) : HeadDrained t := by
  refine h.of_kept k.headIssue fun p => ?_
  cases hq : s.pwq with
  | nil => simp [State.headIsPurged, k.pwq, hq] at p
  | cons e q =>
    rw [headIsPurged_cons (k.pwq.trans hq)] at p
    rw [headIsPurged_cons hq]
    obtain ⟨r, i, kind, p⟩ := p
    exact ⟨r, i, kind, k.records r i p⟩

/-- An entry that joins is not of a PURGING sector. -/
theorem HeadDrained.enqueue {s : State} (h : HeadDrained s) {e : QueueEntry} (kind : ¬ purgedKind s e.kind) :
    HeadDrained (s.enqueue e) := by
  intro p
  cases hq : s.pwq with
  | nil =>
    have pwq : (s.enqueue e).pwq = [e] := by rw [enqueue_pwq, hq, List.nil_append]
    exact absurd ((headIsPurged_cons pwq).1 p) kind
  | cons x q =>
    have pwq : (s.enqueue e).pwq = x :: (q ++ [e]) := by rw [enqueue_pwq, hq, List.cons_append]
    rw [headIsPurged_cons pwq] at p
    rw [enqueue_headIssue, State.headIssueAfterJoin, hq]
    exact h ((headIsPurged_cons hq).2 p)

theorem HeadLeft.of_records {s t : State} (side : RingSide s t) (records : ∀ r i, t.record r i = s.record r i) :
    HeadLeft s t :=
  ⟨side.pwq, side.headIssue, fun r i p => by rwa [records] at p⟩

theorem Quiet.headLeft {s t : State} (h : Quiet s t) : HeadLeft s t :=
  .of_records h.ringSide fun r i => by simp only [State.record, h.sectors]

theorem HeadLeft.setRing (s : State) (r : RingNo) (x : RingState) : HeadLeft s (s.setRing r x) :=
  .of_records (.setRing s r x) fun _ _ => rfl

theorem HeadLeft.setRecord (s : State) (r : RingNo) (i : SectorNo) {x : SectorRecord} (h : x.state ≠ .purging) :
    HeadLeft s (s.setRecord r i x) := by
  refine ⟨rfl, rfl, fun r' i' p => ?_⟩
  rw [setRecord_record] at p
  split at p
  · exact absurd p h
  · exact p

theorem HeadLeft.turnOff (s : State) (r : RingNo) (t : NoticeType) : HeadLeft s (s.turnOff r t) :=
  .of_records (.turnOff s r t) fun r' i => turnOff_record s r r' t i

theorem HeadLeft.stopTest (s : State) (r : RingNo) : HeadLeft s (s.stopTest r) := by
  obtain ⟨-, -, -, e⟩ | ⟨-, e⟩ := stopTest_cases s r <;> rw [e]
  · exact .turnOff s r _
  · exact .refl s

theorem HeadLeft.purgeTest (s : State) (r : RingNo) : HeadLeft s (s.purgeTest r) := by
  obtain ⟨-, -, e⟩ | ⟨-, e⟩ := purgeTest_cases s r <;> rw [e]
  · exact .turnOff s r _
  · exact .refl s

theorem HeadLeft.becomeReady (s : State) (r : RingNo) (i : SectorNo) : HeadLeft s (s.becomeReady r i) := by
  have counted : HeadLeft s ((s.setRecord r i { s.record r i with state := .ready }).setRing r
      (s.ring r).countDelivered) := (HeadLeft.setRecord s r i (by simp)).trans (.setRing _ _ _)
  obtain ⟨t, rfl, ⟨-, h⟩ | ⟨-, h⟩⟩ := becomeReady_cases s r i <;> rw [h]
  · exact counted.trans (.of_records (.generate _ _) fun r' i' => by simp only [State.record, (generate_kept _ _).2])
  · exact counted

theorem HeadLeft.settle (s : State) (r : RingNo) (i : SectorNo) : HeadLeft s (s.settle r i) := by
  obtain ⟨-, -, e⟩ | ⟨-, -, e⟩ | ⟨-, -, e⟩ | ⟨-, e⟩ := settle_cases s r i <;> rw [e]
  · exact .becomeReady s r i
  · exact (HeadLeft.setRecord s r i (by simp)).trans (.stopTest _ _)
  · exact (HeadLeft.setRecord s r i (by simp)).trans (.purgeTest _ _)
  · exact .refl s

/-! ### Every move -/

/-- What the law says of a state whose rings and sectors agree. -/
structure Emptied (s : State) : Prop where
  head : HeadDrained s
  rings : ∀ r, RingDrained s r

/-- The moves that leave the head, and every ring drained. -/
theorem Emptied.headLeft {s t : State} (h : Emptied s) (k : HeadLeft s t) (rings : ∀ r, RingDrained t r) : Emptied t :=
  ⟨h.head.left k, rings⟩

theorem Emptied.queueSide {s t : State} (h : Emptied s) (k : QueueSide s t) : Emptied t :=
  ⟨k.head h.head, fun r => (h.rings r).left (.of_queueSide k r)⟩

/-- After the retirements the head is drained, and the rings stay drained (R90). -/
theorem emptied_retire {s : State} (k : Consistent s) (h : ∀ r, RingDrained s r) : Emptied s.retire :=
  ⟨retire_done s, (retire_induct (P := fun t => Consistent t ∧ ∀ r, RingDrained t r) ⟨k, h⟩ fun _ ih _ _ =>
    ⟨consistent_popHead ih.1 false, drained_popHead ih.1 ih.2 false⟩).2⟩

/-- A ring whose sector at the fill pointer is not FREE is drained. -/
theorem RingDrained.of_record {s : State} {r : RingNo} (i : SectorNo) (busy : (s.record r i).state ≠ .free) :
    RingDrained s r := ⟨fun _ => .inr ⟨i, busy⟩, fun _ => ⟨i, busy⟩⟩

/-- The close of a message leaves the rings drained (R29, R42, R49). -/
theorem drained_closing {s : State} (h : ∀ r, RingDrained s r) (r : RingNo) {x : SectorRecord}
    (closing : x.state = .closing) (r' : RingNo) :
    RingDrained ((s.setRecord r (s.ring r).fillPointer x).advanceRing r) r' := by
  by_cases e : r' = r
  · subst e
    refine .of_record (s.ring r').fillPointer ?_
    show ((s.setRecord r' _ x).record r' _).state ≠ _
    rw [setRecord_record_same, closing]
    decide
  · exact (h r').left ((RingLeft.setRecord_of_ne s _ x e).trans (.setRing_of_ne _ _ e))

/-- A write joins whose sector is not PURGING. -/
theorem Emptied.joined {s t : State} (h : Emptied s) (k : HeadLeft s t) (rings : ∀ r, RingDrained t r)
    {e : QueueEntry} {r : RingNo} {i : SectorNo} (tag : tagOf e.kind = some (r, i))
    (notPurging : (t.record r i).state ≠ .purging) : Emptied (t.enqueue e) :=
  ⟨(h.head.left k).enqueue (mt (purgedKind_of_tag tag) notPurging),
    fun r => (rings r).left (.enqueue _ e r)⟩

theorem Emptied.answered {s : State} (h : Emptied s) : Emptied s.answerAccept :=
  h.queueSide (Quiet.answerAccept s).queueSide

theorem restartTimer_kept (x : RingState) (timeout : BitVec 16) :
    (x.restartTimer timeout).lifecycle = x.lifecycle ∧ (x.restartTimer timeout).fillState = x.fillState := by
  unfold RingState.restartTimer
  split <;> exact ⟨rfl, rfl⟩

theorem RingLeft.restartRingTimer (s : State) (r r' : RingNo) : RingLeft r' s (s.restartRingTimer r) := by
  obtain ⟨lifecycle, fillState⟩ := restartTimer_kept (s.ring r) (s.cfg r).fillTimeout
  exact .setRing lifecycle fillState r'

theorem emptied_stopTest {s : State} (h : HeadDrained s) {r : RingNo} (others : ∀ r', r' ≠ r → RingDrained s r')
    (notPurging : (s.ring r).lifecycle ≠ .purging) : Emptied (s.stopTest r) :=
  ⟨h.left (.stopTest s r), drained_stopTest others notPurging⟩

theorem advanceRing_lifecycle (s : State) (r : RingNo) :
    ((s.advanceRing r).ring r).lifecycle = (s.ring r).lifecycle := by
  rw [advanceRing_ring_same]
  rfl

/-- A write that closes the message joins, and the ring is judged by the test (R42). -/
theorem emptied_close {s : State} (h : Emptied s) {r : RingNo} {x : SectorRecord} (closing : x.state = .closing)
    {e : QueueEntry} (kind : e.kind = .close r (s.ring r).fillPointer) (notPurging : (s.ring r).lifecycle ≠ .purging) :
    Emptied ((((s.setRecord r (s.ring r).fillPointer x).advanceRing r).enqueue e).stopTest r) := by
  have joined : Emptied (((s.setRecord r (s.ring r).fillPointer x).advanceRing r).enqueue e) := by
    refine h.joined ((HeadLeft.setRecord s r _ ?_).trans (.setRing _ r _)) (drained_closing h.rings r closing)
      (r := r) (i := (s.ring r).fillPointer) (by rw [kind]; rfl) ?_
    · simp [closing]
    · show ((s.setRecord r _ x).record r _).state ≠ _
      rw [setRecord_record_same]
      simp [closing]
  refine emptied_stopTest joined.head (fun r' _ => joined.rings r') ?_
  rw [enqueue_ring, advanceRing_lifecycle]
  exact notPurging

theorem emptied_storeWrite {s : State} (h : Emptied s) {r : RingNo} (w : Nat) (q : WriteRequest)
    (filling : (s.record r (s.ring r).fillPointer).state = .filling) (notPurging : (s.ring r).lifecycle ≠ .purging) :
    Emptied (s.storeWrite r w q) := by
  unfold State.storeWrite
  extract_lets i x
  have state : x.state = .filling := filling
  split
  · refine (h.joined (r := r) (i := i) ((HeadLeft.setRecord s r i ?_).trans (.setRing _ r _)) (fun r' => ?_) rfl ?_).answered
    · simp [state]
    · exact (h.rings r').left ((RingLeft.setRecord (by simp [state]) r').trans (.restartRingTimer _ r r'))
    · show ((s.setRecord r i _).record r i).state ≠ _
      rw [setRecord_record_same]
      simp [state]
  · exact (emptied_close h rfl rfl notPurging).answered

/-- A shadow that ends is judged by the test (R46, R49). -/
theorem emptied_endShadow {s : State} (h : Emptied s) {r : RingNo} (notPurging : (s.ring r).lifecycle ≠ .purging) :
    Emptied ((s.advanceRing r).stopTest r) := by
  refine emptied_stopTest (h.head.left (.setRing s r _)) (fun r' ne => (h.rings r').left (.setRing_of_ne s _ ne)) ?_
  exact (advanceRing_lifecycle s r).symm ▸ notPurging

theorem emptied_shadowWrite {s : State} (h : Emptied s) {r : RingNo} (w : Nat) (q : WriteRequest)
    (notPurging : (s.ring r).lifecycle ≠ .purging) : Emptied (s.shadowWrite r w q) := by
  unfold State.shadowWrite
  split
  · exact (h.headLeft (.setRing s r _) fun r' => (h.rings r').left (.restartRingTimer s r r')).answered
  · exact (emptied_endShadow h notPurging).answered

theorem emptied_closeOpen {s : State} (h : Emptied s) (r : RingNo) (mark : SectorFlags → SectorFlags) :
    Emptied (s.closeOpen r mark) := by
  unfold State.closeOpen
  extract_lets i x
  refine h.headLeft (((HeadLeft.setRecord s r i (by simp)).trans (.setRing _ r _)).trans (.settle _ r i))
    (drained_settle (drained_closing h.rings r rfl) ?_ ?_)
  all_goals
    show ((s.setRecord r i _).record r i).state = _ → _
    rw [setRecord_record_same]
    nofun

theorem fades_closeOpen (s : State) (r : RingNo) (mark : SectorFlags → SectorFlags) :
    RingFades ((s.advanceRing r).ring r) ((s.closeOpen r mark).ring r) :=
  (Fades.trans (.setRecord (s.advanceRing r) r _ _) (.settle _ _ _)).rings r

theorem emptied_closeCurrent {s : State} (k : Consistent s) (h : Emptied s) (r : RingNo)
    (mark : SectorFlags → SectorFlags) : Emptied (s.closeCurrent r mark) := by
  have notPurging : (s.ring r).fillState ≠ .idle → (s.ring r).lifecycle ≠ .purging := fun opened =>
    (consistent_open_serves k opened).2
  unfold State.closeCurrent
  split
  · next opened =>
    have closed := emptied_closeOpen h r mark
    refine emptied_stopTest closed.head (fun r' _ => closed.rings r') fun p => ?_
    rcases (fades_closeOpen s r mark).lifecycle with same | off
    · exact notPurging (by simp [opened]) (by rwa [same, advanceRing_lifecycle] at p)
    · rw [off] at p
      cases p
  · next shadow => exact emptied_endShadow h (notPurging (by simp [shadow]))
  · exact h

/-- A ring before the write that opens a message or a shadow in it is ACTIVE (R32). -/
theorem active_of_window {s : State} (k : Consistent s) {r : RingNo} (window : (s.window r).isSome = true)
    (notPurging : (s.ring r).lifecycle ≠ .purging) (notStopping : (s.ring r).lifecycle ≠ .stopping) :
    (s.ring r).lifecycle = .active := by
  have notOff := (k.decoded r).1 window
  cases l : (s.ring r).lifecycle <;> simp_all

theorem emptied_release {s : State} (h : Emptied s) {r : RingNo} {i : SectorNo} (q : WriteRequest)
    (ready : (s.record r i).state = .ready) (room : s.pwq.length < 32) : Emptied (s.release r i q) := by
  have space : s.hasRoom = true := decide_eq_true room
  simp only [State.release, if_pos ready, if_pos space]
  have left : HeadLeft s ((s.setRecord r i { s.record r i with
      state := .releasing, pending := (s.record r i).pending + 1 }).freeReads (s.readInSector r i)) :=
    (HeadLeft.setRecord s r i (by simp)).trans ⟨rfl, rfl, fun _ _ => id⟩
  refine (h.joined (r := r) (i := i) left (fun r' => (h.rings r').left ?_) rfl ?_).answered
  · refine .trans (RingLeft.setRecord (r := r) (i := i) (x := { s.record r i with
      state := .releasing, pending := (s.record r i).pending + 1 }) (by simp) r') ?_
    exact .of_queueSide (QueueMove.readsFreed _ _).queueSide r'
  · rw [freeReads_record, setRecord_record_same]
    simp

/-- Every ring OFF and the queue empty. -/
theorem emptied_cleared {t : State} (rings : ∀ r, t.ring r = {}) (queue : t.pwq = []) : Emptied t :=
  ⟨fun p => by simp [State.headIsPurged, queue] at p, fun r => .of_off (by rw [rings])⟩

theorem emptied_activate {s : State} (h : Emptied s) (r : RingNo) : Emptied (s.activate r) := by
  have ring : ∀ r', (s.activate r).ring r' = if r' = r then (s.ring r).start else s.ring r' :=
    fun r' => getElem_set_fin _ _ _ _
  have record : ∀ r' i, (s.activate r).record r' i = if r' = r then {} else s.record r' i := activate_record s r
  refine ⟨h.head.left ⟨rfl, rfl, fun r' i p => ?_⟩, fun r' => ?_⟩
  · rw [record] at p
    split at p
    · cases p
    · exact p
  · by_cases e : r' = r
    · subst e
      exact .of_active (by rw [ring, if_pos rfl]; rfl)
    · refine (h.rings r').left ⟨?_, ?_, fun i f => ?_⟩
      · rw [ring, if_neg e]
      · rw [ring, if_neg e]
      · rwa [record, if_neg e] at f

/-- The part before a write that opens a sector is drained once the sector is FILLING (R12). -/
theorem emptied_openSector {s : State} (h : Emptied s) {r : RingNo} (active : (s.ring r).lifecycle = .active) :
    Emptied (s.openSector r) := by
  refine h.headLeft ((HeadLeft.setRecord s r _ (by simp)).trans (.setRing _ r _)) fun r' => ?_
  by_cases e : r' = r
  · subst e
    exact .of_active (by simpa [State.openSector] using active)
  · exact (h.rings r').left ((RingLeft.setRecord_of_ne s _ _ e).trans (.setRing_of_ne _ _ e))

theorem emptied_tick {s : State} (h : Emptied s) : Emptied s.tick := by
  refine ⟨fun p => ?_, fun r => (h.rings r).left ⟨?_, ?_, fun _ => id⟩⟩
  · show s.headIssue.tick = .inFlight
    rw [h.head p]
    rfl
  · rw [tick_ring]
    rfl
  · rw [tick_ring]
    rfl

theorem emptied_ringMove {s t : State} (k : Consistent s) (h : Emptied s) (m : RingMove s t) : Emptied t := by
  cases m with
  | passJoined e kind =>
    refine ⟨h.head.enqueue ?_, fun r => (h.rings r).left (.enqueue s e r)⟩
    rintro ⟨r, i, c, -⟩
    simp [kind] at c
  | messageStored r w q opened =>
    exact emptied_storeWrite h w q ((k.filling r _).2 ⟨opened, rfl⟩) (consistent_open_serves k (by simp [opened])).2
  | messageOpened r w q window notPurging notStopping idle free =>
    have active := active_of_window k window notPurging notStopping
    refine emptied_storeWrite (emptied_openSector h active) w q ?_ ?_
    · simp [State.openSector]
    · simp [State.openSector, active]
  | shadowBegun r w q window notPurging notStopping =>
    have active := active_of_window k window notPurging notStopping
    have ring : ((s.beginShadow r).ring r).lifecycle = .active := by simp [State.beginShadow, active]
    refine emptied_shadowWrite (h.headLeft (.setRing s r _) fun r' => ?_) w q fun purging => ?_
    rotate_left
    · cases ring.symm.trans purging
    by_cases e : r' = r
    · subst e
      exact .of_active ring
    · exact (h.rings r').left (.setRing_of_ne s _ e)
  | shadowContinued r w q shadow =>
    exact emptied_shadowWrite h w q (consistent_open_serves k (by simp [shadow])).2
  | released r i q ready room => exact emptied_release h q ready room
  | headDeparted lost =>
    have freed : QueueSide s (s.freeSlot 0) := .of_eq rfl rfl (rings_same s) rfl rfl (reads_same _) rfl
    have k' := consistent_queueSide k freed
    exact emptied_retire (consistent_popHead k' lost) (drained_popHead k' (h.queueSide freed).rings lost)
  | messageClosed r mark => exact emptied_closeCurrent k h r mark
  | poweredOn ma =>
    refine emptied_cleared (fun r => ?_) rfl
    simp [State.ring, State.powerOn, State.reset]
  | activated r => exact emptied_activate h r
  | stopped r active =>
    refine emptied_stopTest (h.head.left (.setRing s r _)) (fun r' ne => (h.rings r').left (.setRing_of_ne s _ ne)) ?_
    simp
  | purged r serving =>
    have purging := consistent_purgeRing k serving
    refine emptied_retire (consistent_purgeTest purging r) (drained_purgeTest (fun r' ne => ?_) ?_)
    · refine (h.rings r').left ⟨?_, ?_, fun i f => ?_⟩
      · rw [purgeRing_ring, if_neg ne]
      · rw [purgeRing_ring, if_neg ne]
      · rwa [purgeRing_record, if_neg ne] at f
    · simp [purgeRing_ring]
  | datapathReset =>
    refine emptied_cleared (fun r => ?_) rfl
    simp [State.ring, State.resetDatapath]
  | ringConfigured r c =>
    exact ⟨h.head, fun r => ⟨(h.rings r).stopping, (h.rings r).purging⟩⟩
  | ticked => exact emptied_tick h

theorem drained_move {s t : State} (k : Consistent s) (h : Drained s) (m : Move s t) : Drained t := by
  obtain ⟨head, rings⟩ := (drained_iff k).1 h
  have before : Emptied s := ⟨head, rings⟩
  have after : Emptied t := m.elim (fun q => before.queueSide q.queueSide) (emptied_ringMove k before)
  exact (drained_iff (consistent_move k m)).2 ⟨after.head, after.rings⟩

/-- Settles O58: a move that frees a sector or ends a message takes the test of its ring, and one that purges or
departs takes the retirements; no other move brings what they would take. -/
theorem drainedKept : Obligations.DrainedKept := fun _ _ k h hstep =>
  kept_of_consistent_moves (fun _ _ => drained_move) k h hstep

end Sys2Proof.Whole
end

section
/-! The Window Decoder: the lines of a decoded window, the sector and the ring of an address, and the class of a
request. -/

namespace Sys2Proof.Whole

open Sys2Proof.Machine Sys2Proof.Safety Sys2Proof.Laws

/-! ### Lines -/

theorem lineOf_eq_shift (a : Addr) : lineOf a = (a >>> 6) <<< 6 := by
  unfold lineOf
  ext i hi
  interval_cases i <;> simp

/-- The line of an address is its multiple of 64 (R75). -/
theorem lineOf_toNat (a : Addr) : (lineOf a).toNat = 64 * (a.toNat / 64) := by
  have := a.isLt
  rw [lineOf_eq_shift, BitVec.toNat_shiftLeft, BitVec.toNat_ushiftRight, Nat.shiftRight_eq_div_pow,
    Nat.shiftLeft_eq, Nat.mod_eq_of_lt]
  · norm_num
    omega
  · norm_num
    omega

/-! ### The window of a valid configuration -/

/-- What R146 has checked of a decoded window: sectors of whole lines on their own multiple, 2 to 32 of them. -/
structure WindowShape (d : DecodeEntry) : Prop where
  size : 0 < d.sectorSize
  lines : d.sectorSize % 64 = 0
  base : d.base.toNat % 64 = 0
  count : d.sectorCount ≤ 32

theorem windowShape {s : State} (h : Consistent s) {r : RingNo} {d : DecodeEntry} (window : s.window r = some d) :
    WindowShape d := by
  obtain ⟨rfl, valid⟩ := h.copied r d window
  obtain ⟨code, -, count, base, -⟩ := (ringConfig_valid_iff _).1 valid
  have size : (s.cfg r).sectorSize = 256 * 2 ^ (s.cfg r).sizeCode.toNat := sectorSize_eq code
  have some : 0 < 2 ^ (s.cfg r).sizeCode.toNat := Nat.two_pow_pos _
  have line : 64 ∣ (s.cfg r).sectorSize := ⟨4 * 2 ^ (s.cfg r).sizeCode.toNat, by rw [size]; omega⟩
  refine ⟨?_, Nat.mod_eq_zero_of_dvd line, ?_, count⟩
  · show 0 < (s.cfg r).sectorSize
    omega
  · exact Nat.mod_eq_zero_of_dvd (line.trans (Nat.dvd_of_mod_eq_zero (by rw [size]; exact base)))

/-- A window holds the line of an address where it holds the address. -/
theorem covers_iff {d : DecodeEntry} (h : WindowShape d) (a : Addr) :
    d.covers (lineOf a) = true ↔ inWindow d a.toNat := by
  obtain ⟨-, lines, base, -⟩ := h
  have whole : d.sectorSize * d.sectorCount % 64 = 0 := by rw [Nat.mul_mod, lines]; simp
  unfold DecodeEntry.covers inWindow
  rw [lineOf_toNat, Bool.and_eq_true, decide_eq_true_eq, decide_eq_true_eq]
  generalize d.sectorSize * d.sectorCount = n at *
  omega

/-- The sector of an address in a window, as a number. -/
theorem sectorOf_val {d : DecodeEntry} (h : WindowShape d) {a : Addr} (inside : inWindow d a.toNat) :
    (d.sectorOf a).val = (a.toNat - d.base.toNat) / d.sectorSize ∧ (d.sectorOf a).val < d.sectorCount := by
  have below : (a.toNat - d.base.toNat) / d.sectorSize < d.sectorCount := by
    rw [Nat.div_lt_iff_lt_mul h.size, Nat.mul_comm]
    have := inside.1
    have := inside.2
    omega
  have count := h.count
  have val : (d.sectorOf a).val = (a.toNat - d.base.toNat) / d.sectorSize :=
    Nat.mod_eq_of_lt (below.trans_le count)
  exact ⟨val, by rw [val]; exact below⟩

/-- An address of a window lies in the sector that the decoder names (R2, R5). -/
theorem inSector_sectorOf {d : DecodeEntry} (h : WindowShape d) {a : Addr} (inside : inWindow d a.toNat) :
    d.inSector (d.sectorOf a) a = true := by
  have low := Nat.div_mul_le_self (a.toNat - d.base.toNat) d.sectorSize
  have high := Nat.lt_div_mul_add (a := a.toNat - d.base.toNat) h.size
  have := inside.1
  unfold DecodeEntry.inSector
  rw [(sectorOf_val h inside).1, Bool.and_eq_true, decide_eq_true_eq, decide_eq_true_eq, Nat.add_mul]
  omega

/-! ### The ring of an address -/

theorem ringAt_none {s : State} (h : Consistent s) {a : Addr}
    (outside : ∀ r d, s.window r = some d → ¬ inWindow d a.toNat) : s.ringAt a = none := by
  unfold State.ringAt
  rw [List.find?_eq_none]
  intro r _
  cases window : s.window r with
  | none => simp
  | some d => simpa using mt (covers_iff (windowShape h window) a).1 (outside r d window)

theorem ringAt_some {s : State} (h : Consistent s) (apart : WindowsApart s) {a : Addr} {r : RingNo} {d : DecodeEntry}
    (window : s.window r = some d) (inside : inWindow d a.toNat) : s.ringAt a = some r := by
  cases found : s.ringAt a with
  | none =>
    have := List.find?_eq_none.1 found r (mem_allRings r)
    simp only [window] at this
    exact absurd ((covers_iff (windowShape h window) a).2 inside) this
  | some r' =>
    have covered := List.find?_some found
    by_contra ne
    cases window' : s.window r' with
    | none => simp [window'] at covered
    | some d' =>
      simp only [window'] at covered
      have inside' := (covers_iff (windowShape h window') a).1 covered
      exact apart.rings r r' d d' _ (fun e => ne (by rw [e])) window window' ⟨inside, inside'⟩

theorem namesWord_iff (a : Addr) (n : Nat) (word : Addr) :
    namesWord a n word = true ↔ ∃ k, k < n ∧ a.toNat + 8 * k = word.toNat := by
  simp [namesWord]

/-- A request of one line that has a byte in a window lies in it whole. -/
theorem inWindow_of_byte {d : DecodeEntry} (h : WindowShape d) {a : Addr} {n b : Nat} (line : a.toNat % 64 + 8 * n ≤ 64)
    (first : a.toNat ≤ b) (last : b < a.toNat + 8 * n) (inside : inWindow d b) : inWindow d a.toNat := by
  obtain ⟨-, lines, base, -⟩ := h
  have whole : d.sectorSize * d.sectorCount % 64 = 0 := by rw [Nat.mul_mod, lines]; simp
  unfold inWindow at *
  generalize d.sectorSize * d.sectorCount = n at *
  omega

/-- Settles O3: a window holds whole lines, so the window of a byte of the request is that of its line, and no other
window holds it. -/
theorem decoderClassifiesRequests : Obligations.DecoderClassifiesRequests := by
  intro s a n i h apart shape line some
  constructor
  · rintro r d window ⟨b, first, last, inside⟩
    have within := inWindow_of_byte (windowShape h window) line first last inside
    obtain ⟨val, below⟩ := sectorOf_val (windowShape h window) within
    refine ⟨d.sectorOf a, val, below, ?_⟩
    simp only [State.classify, ringAt_some h apart window within, window]
    rfl
  · intro outside
    have none : s.ringAt a = none :=
      ringAt_none h fun r d window => outside r d _ window (Nat.le_refl _) (by omega)
    simp only [State.classify, none, ← namesWord_iff]
    constructor
    · rintro ⟨enabled, word⟩
      simp [enabled, word]
    · intro notNamed
      rw [if_neg]
      simpa using notNamed

end Sys2Proof.Whole
end

section
/-! The tagged reads over every step: a READY sector stays READY in its window until its release or the purge of its
ring, and either frees the reads that its place tags. -/

namespace Sys2Proof.Whole

open Sys2Proof.Machine Sys2Proof.Safety Sys2Proof.Laws

/-- READY sectors stay READY in their windows. -/
structure ReadyKept (s t : State) : Prop where
  records : ∀ r i, (s.record r i).state = .ready → (t.record r i).state = .ready
  windows : ∀ r i, (s.record r i).state = .ready → t.window r = s.window r

theorem ReadyKept.refl (s : State) : ReadyKept s s := ⟨fun _ _ => id, fun _ _ _ => rfl⟩

theorem ReadyKept.trans {s t u : State} (h : ReadyKept s t) (k : ReadyKept t u) : ReadyKept s u :=
  ⟨fun r i p => k.records r i (h.records r i p),
    fun r i p => (k.windows r i (h.records r i p)).trans (h.windows r i p)⟩

theorem ReadyKept.of_eq {s t : State} (decode : t.decode = s.decode) (sectors : t.sectors = s.sectors) :
    ReadyKept s t :=
  ⟨fun r i p => by simpa only [State.record, sectors] using p, fun r _ _ => by simp only [State.window, decode]⟩

theorem ReadyKept.setRing (s : State) (r : RingNo) (x : RingState) : ReadyKept s (s.setRing r x) := .of_eq rfl rfl

theorem ReadyKept.setRecord {s : State} {r : RingNo} {i : SectorNo} {x : SectorRecord}
    (h : (s.record r i).state = .ready → x.state = .ready) : ReadyKept s (s.setRecord r i x) := by
  refine ⟨fun r' i' p => ?_, fun _ _ _ => rfl⟩
  rw [setRecord_record]
  split
  · next e =>
    obtain ⟨rfl, rfl⟩ := e
    exact h p
  · exact p

/-- A record that is not READY may be written. -/
theorem ReadyKept.setRecord_of_ne {s : State} {r : RingNo} {i : SectorNo} (x : SectorRecord)
    (h : (s.record r i).state ≠ .ready) : ReadyKept s (s.setRecord r i x) := .setRecord fun p => absurd p h

theorem ReadyKept.queueSide {s t : State} (h : QueueSide s t) : ReadyKept s t := .of_eq h.decode h.sectors

/-- A ring that turns OFF has no READY sector. -/
theorem ReadyKept.turnOff {s : State} {r : RingNo} (free : s.allFree r = true) (t : NoticeType) :
    ReadyKept s (s.turnOff r t) := by
  refine ⟨fun r' i p => by rwa [turnOff_record], fun r' i p => ?_⟩
  rw [turnOff_window, if_neg]
  rintro rfl
  have := (allFree_iff s r').1 free i
  rw [p] at this
  cases this

theorem ReadyKept.stopTest (s : State) (r : RingNo) : ReadyKept s (s.stopTest r) := by
  obtain ⟨-, -, free, e⟩ | ⟨-, e⟩ := stopTest_cases s r <;> rw [e]
  · exact .turnOff free _
  · exact .refl s

theorem ReadyKept.purgeTest (s : State) (r : RingNo) : ReadyKept s (s.purgeTest r) := by
  obtain ⟨-, free, e⟩ | ⟨-, e⟩ := purgeTest_cases s r <;> rw [e]
  · exact .turnOff free _
  · exact .refl s

theorem ReadyKept.settle (s : State) (r : RingNo) (i : SectorNo) : ReadyKept s (s.settle r i) := by
  obtain ⟨-, -, e⟩ | ⟨-, state, e⟩ | ⟨-, state, e⟩ | ⟨-, e⟩ := settle_cases s r i <;> rw [e]
  · have counted : ReadyKept s ((s.setRecord r i { s.record r i with state := .ready }).setRing r
        (s.ring r).countDelivered) := (ReadyKept.setRecord fun _ => rfl).trans (.setRing _ _ _)
    obtain ⟨t, rfl, ⟨-, h⟩ | ⟨-, h⟩⟩ := becomeReady_cases s r i <;> rw [h]
    · exact counted.trans (.queueSide (.generate _ _))
    · exact counted
  · exact (ReadyKept.setRecord_of_ne _ (by simp [state])).trans (.stopTest _ _)
  · exact (ReadyKept.setRecord_of_ne _ (by simp [state])).trans (.purgeTest _ _)
  · exact .refl s

theorem ReadyKept.leaveSector (s : State) (r : RingNo) (i : SectorNo) (lost : Bool) :
    ReadyKept s (s.leaveSector r i lost) := by
  unfold State.leaveSector
  extract_lets x
  exact (ReadyKept.setRecord (x := { x with
    pending := x.pending - 1, flags := { x.flags with writeError := x.flags.writeError || lost } }) id).trans
    (.settle _ _ _)

theorem ReadyKept.popHead (s : State) (lost : Bool) : ReadyKept s (s.popHead lost) := by
  have dropped : ReadyKept s (s.dropHead.reportLost lost) :=
    (ReadyKept.of_eq (s := s) (t := s.dropHead) rfl rfl).trans (.queueSide (Quiet.reportLost _ lost).queueSide)
  cases hq : s.pwq with
  | nil =>
    rw [popHead_nil s lost hq]
    exact .refl s
  | cons e q =>
    cases tag : tagOf e.kind with
    | none =>
      rw [popHead_pass lost hq tag]
      exact dropped
    | some ri =>
      obtain ⟨l, e'⟩ := popHead_tagged lost hq tag
      rw [e']
      exact dropped.trans (.leaveSector _ _ _ l)

theorem ReadyKept.retire (s : State) : ReadyKept s s.retire :=
  retire_induct (.refl s) fun _ h _ _ => h.trans (.popHead _ false)

theorem ReadyKept.enqueue (s : State) (e : QueueEntry) : ReadyKept s (s.enqueue e) :=
  .of_eq (enqueue_decode s e) (enqueue_sectors s e)

theorem ReadyKept.answerAccept (s : State) : ReadyKept s s.answerAccept := .queueSide (Quiet.answerAccept s).queueSide

/-! ### The reads that stay -/

/-- Every read entry was there, with its request and tag. -/
def ReadsNamed (s t : State) : Prop := ∀ e ∈ t.reads, ∃ x ∈ s.reads, x.request = e.request ∧ x.tag = e.tag

theorem ReadsNamed.trans {s t u : State} (h : ReadsNamed s t) (k : ReadsNamed t u) : ReadsNamed s u := by
  intro e he
  obtain ⟨x, hx, request, tag⟩ := k e he
  obtain ⟨y, hy, request', tag'⟩ := h x hx
  exact ⟨y, hy, request'.trans request, tag'.trans tag⟩

theorem overlap_named (line : Addr) (q : List QueueEntry) (e : ReadEntry) :
    (e.overlap line q).request = e.request ∧ (e.overlap line q).tag = e.tag := by
  unfold ReadEntry.overlap
  split
  · split <;> exact ⟨rfl, rfl⟩
  · exact ⟨rfl, rfl⟩

theorem readsNamed_part {s t : State} (h : Part s t) : ReadsNamed s t := by
  cases h with
  | ringSide h =>
    unfold ReadsNamed
    rw [h.reads]
    exact reads_same _
  | joined e room => exact reads_map (overlap_named e.line _) s.reads
  | readsFreed p => exact reads_filter _ s.reads
  | headEnded | headRetired => exact reads_map (f := ReadEntry.headLeft) (fun _ => ⟨rfl, rfl⟩) s.reads
  | slotLost => exact reads_same s.reads
  | poweredOn | datapathReset => nofun
  | activated r => exact reads_filter _ s.reads
  | ticked => exact reads_map (f := ReadEntry.tick) (fun _ => ⟨rfl, rfl⟩) s.reads

theorem readsNamed_parts {s t : State} (h : Parts s t) : ReadsNamed s t := by
  induction h with
  | refl => exact reads_same s.reads
  | tail _ part ih => exact ih.trans (readsNamed_part part)

/-! ### Every move -/

/-- The reads that stay, with the sectors that stay READY, stay where their tags name them. -/
theorem tagged_kept {s t : State} (h : TaggedReadsReady s) (reads : ReadsNamed s t) (k : ReadyKept s t) :
    TaggedReadsReady t := by
  intro e he r i tag
  obtain ⟨x, hx, request, tag'⟩ := reads e he
  obtain ⟨ready, d, window, inside⟩ := h x hx r i (tag'.trans tag)
  exact ⟨k.records r i ready, d, (k.windows r i ready).trans window, request ▸ inside⟩

/-- A read whose tag fits lies in its tag's sector (R58, R59). -/
theorem tagged_queueMove {s t : State} (k : Consistent s) (h : TaggedReadsReady s) (m : QueueMove s t) :
    TaggedReadsReady t := by
  have side := m.queueSide
  have kept := ReadyKept.queueSide side
  intro e he r i tag
  obtain ⟨x, hx, request, tag'⟩ | fits := side.reads e he
  · obtain ⟨ready, d, window, inside⟩ := h x hx r i (tag'.trans tag)
    exact ⟨kept.records r i ready, d, (kept.windows r i ready).trans window, request ▸ inside⟩
  · obtain ⟨ready, d, window, covered, rfl⟩ := fits r i tag
    have shape := windowShape k window
    exact ⟨kept.records r _ ready, d, (kept.windows r _ ready).trans window,
      inSector_sectorOf shape ((covers_iff shape _).1 covered)⟩

/-- A release frees the reads of its sector, and no other sector changes (R64). -/
theorem tagged_release {s : State} (h : TaggedReadsReady s) {r : RingNo} {i : SectorNo} (q : WriteRequest)
    (ready : (s.record r i).state = .ready) (room : s.pwq.length < 32) : TaggedReadsReady (s.release r i q) := by
  have space : s.hasRoom = true := decide_eq_true room
  simp only [State.release, if_pos ready, if_pos space]
  have freed : TaggedReadsReady ((s.setRecord r i { s.record r i with
      state := .releasing, pending := (s.record r i).pending + 1 }).freeReads (s.readInSector r i)) := by
    intro e he r' i' tag
    obtain ⟨mem, outside⟩ := List.mem_filter.1 he
    obtain ⟨was, d, window, inside⟩ := h e mem r' i' tag
    refine ⟨?_, d, window, inside⟩
    rw [freeReads_record, setRecord_record_of_ne]
    · exact was
    · intro same
      cases same
      simp [State.readInSector, window, inside] at outside
  refine tagged_kept (tagged_kept freed ?_ (.enqueue _ _)) ?_ (.answerAccept _)
  · exact readsNamed_part (Part.joined _ _ room)
  · exact readsNamed_part (Part.ringSide (Quiet.answerAccept _).ringSide)

/-- A purge frees the reads that are tagged with its ring, and no other ring changes (R108). -/
theorem tagged_purgeRing {s : State} (h : TaggedReadsReady s) (r : RingNo) : TaggedReadsReady (s.purgeRing r) := by
  intro e he r' i tag
  obtain ⟨mem, other⟩ := List.mem_filter.1 he
  obtain ⟨ready, d, window, inside⟩ := h e mem r' i tag
  refine ⟨?_, d, window, inside⟩
  rw [purgeRing_record, if_neg]
  · exact ready
  · rintro rfl
    simp [ReadEntry.taggedWith, tag] at other

/-- A ring that is activated had no READY sector (R27). -/
theorem ReadyKept.activate {s : State} (k : Consistent s) {r : RingNo} (off : (s.ring r).lifecycle = .off) :
    ReadyKept s (s.activate r) := by
  have other : ∀ r' i, (s.record r' i).state = .ready → r' ≠ r := by
    rintro r' i ready rfl
    have := (k.off r' off).2 i
    rw [ready] at this
    cases this
  refine ⟨fun r' i ready => ?_, fun r' i ready => ?_⟩
  · rwa [activate_record, if_neg (other r' i ready)]
  · exact (decode_set_window s r r' _).trans (if_neg (other r' i ready))

theorem ReadyKept.storeWrite {s : State} {r : RingNo} (w : Nat) (q : WriteRequest)
    (filling : (s.record r (s.ring r).fillPointer).state = .filling) : ReadyKept s (s.storeWrite r w q) := by
  have written : ∀ x, ReadyKept s (s.setRecord r (s.ring r).fillPointer x) := fun x =>
    .setRecord_of_ne x (by simp [filling])
  unfold State.storeWrite
  extract_lets i x
  split
  · exact (((written _).trans (.setRing _ _ _)).trans (.enqueue _ _)).trans (.answerAccept _)
  · exact ((((written _).trans (.setRing _ _ _)).trans (.enqueue _ _)).trans (.stopTest _ _)).trans (.answerAccept _)

theorem ReadyKept.shadowWrite (s : State) (r : RingNo) (w : Nat) (q : WriteRequest) :
    ReadyKept s (s.shadowWrite r w q) := by
  unfold State.shadowWrite
  split
  · exact (ReadyKept.setRing _ _ _).trans (.answerAccept _)
  · exact ((ReadyKept.setRing _ _ _).trans (.stopTest _ _)).trans (.answerAccept _)

theorem ReadyKept.closeCurrent {s : State} (k : Consistent s) (r : RingNo) (mark : SectorFlags → SectorFlags) :
    ReadyKept s (s.closeCurrent r mark) := by
  unfold State.closeCurrent
  split
  · next opened =>
    have filling := (k.filling r (s.ring r).fillPointer).2 ⟨opened, rfl⟩
    exact (((ReadyKept.setRecord_of_ne _ (by simp [filling])).trans (.setRing _ _ _)).trans (.settle _ _ _)).trans
      (.stopTest _ _)
  · exact (ReadyKept.setRing _ _ _).trans (.stopTest _ _)
  · exact .refl s

theorem tagged_move {s t : State} (k : Consistent s) (h : TaggedReadsReady s) (m : Move s t) : TaggedReadsReady t := by
  obtain m | m := m
  · exact tagged_queueMove k h m
  have reads := readsNamed_parts m.parts
  cases m with
  | passJoined e => exact tagged_kept h reads (.enqueue s e)
  | messageStored r w q opened => exact tagged_kept h reads (.storeWrite w q ((k.filling r _).2 ⟨opened, rfl⟩))
  | messageOpened r w q window notPurging notStopping idle free =>
    have opened : ReadyKept s (s.openSector r) :=
      (ReadyKept.setRecord_of_ne _ (by simp [free])).trans (.setRing _ _ _)
    exact tagged_kept h reads (opened.trans (.storeWrite w q (by simp [State.openSector])))
  | shadowBegun r w q => exact tagged_kept h reads ((ReadyKept.setRing s r _).trans (.shadowWrite _ r w q))
  | shadowContinued r w q => exact tagged_kept h reads (.shadowWrite s r w q)
  | released r i q ready room => exact tagged_release h q ready room
  | headDeparted lost =>
    have freed : ReadyKept s (s.freeSlot 0) := .of_eq rfl rfl
    exact tagged_kept h reads ((freed.trans (.popHead _ lost)).trans (.retire _))
  | messageClosed r mark => exact tagged_kept h reads (.closeCurrent k r mark)
  | poweredOn | datapathReset => nofun
  | activated r off => exact tagged_kept h reads (.activate k off)
  | stopped r => exact tagged_kept h reads ((ReadyKept.setRing s r _).trans (.stopTest _ r))
  | purged r =>
    refine tagged_kept (tagged_purgeRing h r) (readsNamed_parts ?_) ((ReadyKept.purgeTest _ r).trans (.retire _))
    exact (RingSide.purgeTest _ r).parts.trans (parts_retire _)
  | ringConfigured r c => exact tagged_kept h reads (.of_eq rfl rfl)
  | ticked => exact tagged_kept h reads (.of_eq rfl rfl)

/-- Settles O55: a sector leaves READY at its release or the purge of its ring alone, and either frees its reads. -/
theorem taggedReadsReadyKept : Obligations.TaggedReadsReadyKept := fun _ _ k h hstep =>
  kept_of_consistent_moves (fun _ _ => tagged_move) k h hstep

end Sys2Proof.Whole
end

section
/-! The first command of the queue, and requests on the host link in the terms of the statements: PASS writes, the full
queue, the writes that a message takes, the refusals of a producer, and the reads that take a place. -/

namespace Sys2Proof.Whole

open Sys2Proof.Machine Sys2Proof.Safety Sys2Proof.Laws Sys2Proof.Producer Sys2Proof.Consumer Sys2Proof.PostedWrites

/-- Settles O1: a step takes the front command off the queue, and an empty queue has none. -/
theorem stepTakesTheFrontCommand : Obligations.StepTakesTheFrontCommand := by
  refine ⟨fun c s => rfl, fun s none => ?_⟩
  simp only [step, none]

/-! ### PASS writes -/

theorem exec_writeOf_pass {s : State} {q : WriteRequest} (hw : writeOf s q .pass) :
    exec (.writeArrival q) s = .next (s.passWrite q) := by
  obtain ⟨line, shape, class_⟩ := hw
  show execWriteArrival q s = _
  simp [execWriteArrival, State.takeWrite, line, shape, class_]

/-- What a write of a line makes of a read entry, where `q` is the queue with the write at its tail (R80, R99). -/
theorem overlap_eq (x : ReadEntry) (line : Addr) (q : List QueueEntry) (e : QueueEntry) :
    x.overlap line (q ++ [e]) =
      if lineOf x.request.address = line then
        match x.phase with
        | .queued _ => { x with counted := x.counted ++ [q.length] }
        | .issued _ => { x with phase := .issued true }
        | .complete _ _ => { x with
            phase := .queued none
            attempts := 0
            counted := lineHits (lineOf x.request.address) (q ++ [e]) }
      else x := by
  unfold ReadEntry.overlap
  simp only [ReadEntry.line, List.length_append, List.length_singleton, Nat.add_sub_cancel]
  cases x.phase <;> rfl

theorem headIssueAfterJoin_eq (s : State) :
    s.headIssueAfterJoin = if s.pwq = [] then .waiting else s.headIssue := by
  unfold State.headIssueAfterJoin
  cases s.pwq <;> simp

/-- Settles O5: the write joins the queue as a PASS entry, and its line decides for each read entry. -/
theorem passWriteJoinsTheQueue : Obligations.PassWriteJoinsTheQueue := by
  rintro s q e rfl hw room
  rw [exec_writeOf_pass hw, passWrite_of_room room]
  unfold State.enqueue
  rw [headIssueAfterJoin_eq]
  simp only [overlap_eq]
  rfl

/-! ### The full queue -/

theorem hasRoom_of_full {s : State} (full : 32 ≤ s.pwq.length) : ¬ s.hasRoom = true := by
  simpa [State.hasRoom] using full

theorem hasRoom_of_lt {s : State} (room : s.pwq.length < 32) : s.hasRoom = true := decide_eq_true room

/-- Settles O7: every write that is to be queued asks for room first. -/
theorem fullQueueAnswersRetry : Obligations.FullQueueAnswersRetry := by
  rintro s q full (hw | hw | ⟨r, i, w, hw, hserves, hi, checks, message⟩ | ⟨r, i, hw, hserves, rest, mask, ready⟩)
  all_goals have noRoom := hasRoom_of_full full
  · rw [exec_writeOf_pass hw, State.passWrite, if_neg noRoom]
    rfl
  · rw [exec_writeOf_noticeReturn hw, State.returnWrite, if_neg noRoom]
    rfl
  · have opens : (s.ring r).lifecycle = .active ∨ (s.ring r).fillState ≠ .idle :=
      message.elim (fun opened => .inr (by simp [opened])) fun opening => .inl opening.2.1
    rw [exec_producerWrite hw hi hserves opens checks, State.takeProducerWrite]
    obtain opened | ⟨idle, -, free⟩ := message
    · simp only [opened, if_neg noRoom]
      rfl
    · simp only [idle, if_pos (hi ▸ free), if_neg noRoom]
      rfl
  · rw [exec_writeOf_ring hw, ringWrite_release hserves ⟨rfl, rest, mask⟩, State.release, if_pos ready, if_neg noRoom]
    rfl

/-! ### The writes of a message -/

theorem withRecord_withRing (s : State) (r r' : RingNo) (i : SectorNo) (x : SectorRecord) (y : RingState) :
    withRecord (withRing s r' y) r i x = withRing (withRecord s r i x) r' y := rfl

/-- A write that is no close trigger is queued as FILL (R36, R48). -/
theorem storeWrite_of_no_trigger {s : State} {r : RingNo} {w : Nat} {q : WriteRequest}
    (h : closeTrigger (s.cfg r) w q = none) :
    s.storeWrite r w q = (accepted (withRing
      (withRecord s r (s.ring r).fillPointer { s.record r (s.ring r).fillPointer with
        pending := (s.record r (s.ring r).fillPointer).pending + 1
        highWater := max (s.record r (s.ring r).fillPointer).highWater (8 * (w + (q.rest.length + 1))) })
      r { s.ring r with fillTimer := restarted (s.cfg r).fillTimeout (s.ring r).fillTimer })).enqueue
      { address := q.address, words := q.first :: q.rest, kind := .fill r (s.ring r).fillPointer, attempts := 0 } := by
  simp only [State.storeWrite, h, setRecord_eq, State.restartRingTimer, setRing_eq, restartTimer_eq]
  rfl

/-- A ring with a sector that is not FREE fails the test for OFF (R151). -/
theorem stopTest_of_busy {s : State} {r : RingNo} (i : SectorNo) (busy : (s.record r i).state ≠ .free) :
    s.stopTest r = s :=
  if_neg fun ⟨_, _, free⟩ => busy ((allFree_iff s r).1 free i)

/-- A close trigger closes the message: the write is queued as CLOSE (R40, R42, R43). -/
theorem storeWrite_of_trigger {s : State} {r : RingNo} {w : Nat} {q : WriteRequest} {t : CloseTrigger}
    (h : closeTrigger (s.cfg r) w q = some t) :
    s.storeWrite r w q = (accepted (withRing
      (withRecord s r (s.ring r).fillPointer { s.record r (s.ring r).fillPointer with
        state := .closing
        pending := (s.record r (s.ring r).fillPointer).pending + 1
        highWater := max (s.record r (s.ring r).fillPointer).highWater t.endOffset
        length := t.length
        flags := { (s.record r (s.ring r).fillPointer).flags with
          trailingDrop := (s.record r (s.ring r).fillPointer).flags.trailingDrop || t.trailing }
        closeTime := s.timestamp })
      r (closedRing s r (s.ring r)))).enqueue
      { address := q.address, words := t.words, kind := .close r (s.ring r).fillPointer, attempts := 0 } := by
  simp only [State.storeWrite, h, setRecord_eq]
  rw [stopTest_of_busy (s.ring r).fillPointer]
  · rfl
  · show ((withRecord s r _ _).record r _).state ≠ _
    simp

/-- The ring's record while its sector is opened (R12). -/
def openedRing (x : RingState) : RingState := { x with nextSeq := x.nextSeq + 1, fillState := .opened }

@[simp] theorem openedRing_fillPointer (x : RingState) : (openedRing x).fillPointer = x.fillPointer := rfl

/-- The record of a sector that is opened (R12). -/
def openedRecord (x : SectorRecord) (seq : BitVec 16) : SectorRecord :=
  { x with state := .filling, seq := seq, flags := {}, length := 0, closeTime := 0, highWater := 0 }

theorem openSector_eq (s : State) (r : RingNo) :
    s.openSector r = withRing (withRecord s r (s.ring r).fillPointer
      (openedRecord (s.record r (s.ring r).fillPointer) (s.ring r).nextSeq)) r (openedRing (s.ring r)) := by
  simp only [State.openSector, setRecord_eq, setRing_eq]
  rfl

/-- A producer write into an open message, with room (R36, R40). -/
theorem exec_storeWrite {s : State} {q : WriteRequest} {r : RingNo} {w : Nat} {i : SectorNo}
    (hw : writeOf s q (.ring r i w .producer)) (hi : i = (s.ring r).fillPointer) (hserves : serves s r)
    (checks : passesHeaderChecks (s.cfg r) w q) (room : s.pwq.length < 32) (opened : (s.ring r).fillState = .opened) :
    exec (.writeArrival q) s = .next (s.storeWrite r w q) := by
  rw [exec_producerWrite hw hi hserves (.inr (by simp [opened])) checks, State.takeProducerWrite]
  simp only [opened, if_pos (hasRoom_of_lt room)]

/-- A producer write that opens the FREE sector at the fill pointer, with room (R35). -/
theorem exec_openSector {s : State} {q : WriteRequest} {r : RingNo} {w : Nat} {i : SectorNo}
    (hw : writeOf s q (.ring r i w .producer)) (hi : i = (s.ring r).fillPointer)
    (checks : passesHeaderChecks (s.cfg r) w q) (room : s.pwq.length < 32) (idle : (s.ring r).fillState = .idle)
    (active : (s.ring r).lifecycle = .active) (free : (s.record r i).state = .free) :
    exec (.writeArrival q) s = .next ((s.openSector r).storeWrite r w q) := by
  rw [exec_producerWrite hw hi (.inl active) (.inl active) checks, State.takeProducerWrite]
  simp only [idle, if_pos (hi ▸ free), if_pos (hasRoom_of_lt room)]

theorem withRing_withRecord_again (s : State) (r : RingNo) (i : SectorNo) (x x' : SectorRecord) (y y' : RingState) :
    withRing (withRecord (withRing (withRecord s r i x) r y) r i x') r y' = withRing (withRecord s r i x') r y' := by
  rw [withRecord_withRing, withRing_withRing, withRecord_withRecord]

/-- Settles O8: without a trigger the write is stored in the sector at the fill pointer, opened first where the ring
is IDLE. -/
theorem ordinaryWriteIsStored : Obligations.OrdinaryWriteIsStored := by
  rintro s q r w _ e rfl hw rfl hserves hordinary room
  have checks := passesHeaderChecks_of_ordinary hordinary
  have trigger := closeTrigger_of_ordinary hordinary
  refine ⟨fun opened => ?_, fun idle active free => ?_⟩
  · rw [exec_storeWrite hw rfl hserves checks room opened, storeWrite_of_no_trigger trigger]
  · rw [exec_openSector hw rfl checks room idle active free,
      storeWrite_of_no_trigger (s := s.openSector r) trigger, openSector_eq]
    simp only [withRing_ring, withRing_record, withRecord_record, if_true, and_self, openedRing,
      withRing_withRecord_again]
    simp [openedRecord]

/-- The ring of a message that its opening write closes (R35, R40). -/
theorem closedRing_openedRing (s : State) (r : RingNo) (i : SectorNo) (x : SectorRecord) :
    closedRing (withRing (withRecord s r i x) r (openedRing (s.ring r))) r (openedRing (s.ring r)) =
      closedRing s r { s.ring r with nextSeq := (s.ring r).nextSeq + 1 } := by
  rw [closedRing_withRing (s := withRecord s r i x) (x := openedRing (s.ring r)) rfl]
  rfl

/-- The write that opens a message and closes it (R35, R40, R42). -/
theorem openSector_of_trigger {s : State} {r : RingNo} {w : Nat} {q : WriteRequest} {t : CloseTrigger}
    (h : closeTrigger (s.cfg r) w q = some t) :
    (s.openSector r).storeWrite r w q = (accepted (withRing
      (withRecord s r (s.ring r).fillPointer {
        state := .closing
        seq := (s.ring r).nextSeq
        pending := (s.record r (s.ring r).fillPointer).pending + 1
        highWater := t.endOffset
        length := t.length
        flags := { trailingDrop := t.trailing }
        closeTime := s.timestamp })
      r (closedRing s r { s.ring r with nextSeq := (s.ring r).nextSeq + 1 }))).enqueue
      { address := q.address, words := t.words, kind := .close r (s.ring r).fillPointer, attempts := 0 } := by
  rw [storeWrite_of_trigger (s := s.openSector r) h, openSector_eq]
  simp only [withRing_ring, withRing_record, withRecord_record, if_true, and_self, closedRing_openedRing,
    openedRing_fillPointer, withRing_withRecord_again]
  simp [openedRecord]

/-- Settles O9: the trigger of a complete header carries the header's length and drops no word. -/
theorem headerCloseEndsTheMessage : Obligations.HeaderCloseEndsTheMessage := by
  rintro s q r w _ e rfl hw rfl hserves header room
  have checks := passesHeaderChecks_of_completeHeader header
  have trigger := closeTrigger_of_completeHeader header
  refine ⟨fun opened => ?_, fun idle active free => ?_⟩
  · rw [exec_storeWrite hw rfl hserves checks room opened, storeWrite_of_trigger trigger]
    simp
  · rw [exec_openSector hw rfl checks room idle active free, openSector_of_trigger trigger]

/-- Settles O10: the trigger of a marker word carries the length before it, and the words after it with no byte
enabled. -/
theorem markerCloseDropsTrailingWords : Obligations.MarkerCloseDropsTrailingWords := by
  rintro s q r w _ e before after m rfl hw rfl hserves marked room
  have checks := passesHeaderChecks_of_markedWords marked w
  have trigger := closeTrigger_of_markedWords marked w
  refine ⟨fun opened => ?_, fun idle active free => ?_⟩
  · rw [exec_storeWrite hw rfl hserves checks room opened, storeWrite_of_trigger trigger]
    rfl
  · rw [exec_openSector hw rfl checks room idle active free, openSector_of_trigger trigger]
    rfl

/-! ### Refusals -/

theorem answerRingFault_producer (s : State) (r : RingNo) (f : FaultReason) :
    s.answerRingFault r .producer f = faulted (producerFaulted s r) f := rfl

/-- Settles O12: the checks of R32 are made in their order, and each refusal is counted in the ring. -/
theorem producerWriteFaults : Obligations.ProducerWriteFaults := by
  intro s q r w i hw hserves
  rw [exec_writeOf_ring hw, ringWrite_producer hserves, State.producerWrite]
  refine ⟨fun other => ?order, fun hi stopping idle => ?ringOff, fun hi opens header first => ?header⟩
  case order => rw [if_pos other, answerRingFault_producer]
  case ringOff => rw [if_neg (not_not.2 hi), if_pos ⟨stopping, idle⟩, answerRingFault_producer]
  case header =>
    have notOff : ¬ ((s.ring r).lifecycle = .stopping ∧ (s.ring r).fillState = .idle) := by
      rintro ⟨stopping, idle⟩
      rcases opens with active | busy
      · cases stopping.symm.trans active
      · exact busy idle
    rw [if_neg (not_not.2 hi), if_neg notOff]
    refine ⟨fun mask => ?_, fun mask complete long => ?_⟩
    · rw [if_pos ((headerPartial_iff _ _ _).2 ⟨header, first, mask⟩), answerRingFault_producer]
    · have whole : ¬ headerPartial (s.cfg r) w q = true := fun c => ((headerPartial_iff _ _ _).1 c).2.2 mask
      rw [if_neg whole, if_pos ((headerTooLong_iff _ _ _).2 ⟨⟨header, first, mask, complete⟩, long⟩),
        answerRingFault_producer]

/-- The ring's count of a refusal, by role (R61, R163). -/
def roleFaulted (s : State) (r : RingNo) : Role → State
  | .producer => producerFaulted s r
  | .consumer => consumerFaulted s r
  | .monitor => consumerFaulted s r
  | .other => s

theorem answerRingFault_by_role (s : State) (r : RingNo) (role : Role) (f : FaultReason) :
    s.answerRingFault r role f = faulted (roleFaulted s r role) f := by
  cases role with
  | producer | consumer | monitor => rfl
  | other => exact answerRingFault_other s r f

/-- Settles O15: the state of the ring is judged before the role and the shape of the request. -/
theorem purgingRingRefusesRequests : Obligations.PurgingRingRefusesRequests := by
  rintro s t r w i role purging counted
  have taken : t = roleFaulted s r role := by
    rw [counted]
    cases role <;> rfl
  refine ⟨fun q hw => ?_, fun k hk => ?_⟩
  · simp only [exec_writeOf_ring hw, State.ringWrite, if_pos purging, answerRingFault_by_role, taken]
  · simp only [exec_readOf_ring hk, State.ringRead, if_pos purging, answerRingFault_by_role, taken]

/-! ### Reads -/

/-- A read that no gate judges and that has no entry asks the table for a place (R95). -/
theorem exec_createRead {s : State} {k : ReadRequest}
    (hk : readOf s k .pass ∨ readOf s k .noticeReturn ∨ ∃ r i w, readOf s k (.ring r i w .producer) ∧ serves s r)
    (fresh : ∀ e ∈ s.reads, e.request ≠ k) : exec (.readArrival k) s = .next (s.createRead k none) := by
  obtain hk | hk | ⟨r, i, w, hk, hserves⟩ := hk
  · rw [exec_matchRead_of_outside hk (.inl rfl), matchRead_of_no_entry fresh]
  · rw [exec_matchRead_of_outside hk (.inr rfl), matchRead_of_no_entry fresh]
  · rw [exec_readOf_ring hk, ringRead_producer hserves, matchRead_of_no_entry fresh]

/-- Settles O16: the read is no repeat, so the table's places decide. -/
theorem readTakesAPlace : Obligations.ReadTakesAPlace := by
  intro s k hk fresh
  rw [exec_createRead hk fresh]
  exact ⟨fun room share => by rw [createRead_of_place room share], fun full => by rw [createRead_of_no_place full]⟩

end Sys2Proof.Whole
end

section
/-! Grants in the terms of the statements: who is eligible, who wins, and what is issued for each of the three. -/

namespace Sys2Proof.Whole

open Sys2Proof.Machine Sys2Proof.Safety Sys2Proof.Laws

/-! ### Eligibility (R115) -/

theorem headIsPurged_eq_false (s : State) : s.headIsPurged = false ↔ ¬ retires s s.pwq :=
  (Bool.not_eq_true _ ▸ Iff.rfl : s.headIsPurged = false ↔ ¬ s.headIsPurged = true).trans
    (not_congr (headIsPurged_iff s s.pwq))

theorem readEligible_iff (s : State) : s.readEligible = true ↔
    (∃ e ∈ s.reads, e.phase = .queued none ∧ e.counted = []) ∧ (s.link.readA = .free ∨ s.link.readB = .free) := by
  simp only [State.readEligible, State.offeredRead, Bool.and_eq_true, Bool.or_eq_true, decide_eq_true_eq,
    List.find?_isSome, eligible_iff]

theorem noticeEligible_iff (s : State) : s.noticeEligible = true ↔ ∃ n q, s.notices.fifo = n :: q ∧ n.backoff = none ∧
    s.link.writeSlot = .free ∧ s.notices.enabled = true ∧
    ((∃ k, n.slot = some k) ∨ (s.notices.w - s.notices.r).toNat < s.notices.slots) := by
  cases h : s.notices.fifo with
  | nil => simp [State.noticeEligible, h]
  | cons n q =>
    rw [noticeEligible_cons h, Option.isSome_iff_exists]
    constructor
    · exact fun eligible => ⟨n, q, rfl, eligible⟩
    · rintro ⟨n', q', same, eligible⟩
      cases same
      exact eligible

/-! ### The winner (R116) -/

theorem winner_of_granted {s : State} {q : Requester} (h : granted s q) : s.winner = some q := by
  obtain ⟨eligible, rfl | ⟨rfl, first⟩ | ⟨rfl, first, second⟩⟩ := h
  · simp [State.winner, eligible]
  · simp [State.winner, eligible, first]
  · simp [State.winner, eligible, first, second]

theorem exec_grant (s : State) : exec .grant s = .next s.grant := rfl

theorem exec_grant_of_granted {s : State} {q : Requester} (h : granted s q) :
    exec .grant s = .next ((s.issue q).setNext q.after) := by
  rw [exec_grant, State.grant, winner_of_granted h]

/-- Settles O19: the model's offers are the conditions of the rows, and the winner is the first in rotation. -/
theorem grantFollowsTheRotation : Obligations.GrantFollowsTheRotation := by
  intro s
  refine ⟨?_, readEligible_iff s, noticeEligible_iff s, fun none => ?_, fun q h => ⟨_, exec_grant_of_granted h, rfl⟩⟩
  · show s.queueEligible = true ↔ _
    rw [queueEligible_iff, headIsPurged_eq_false]
  · have noWinner : s.winner = Option.none := by simp [State.winner, none]
    rw [exec_grant, State.grant, noWinner]

/-! ### What is issued (R117) -/

/-- Settles O20: the head of the queue is the entry that is issued. -/
theorem grantIssuesTheQueueHead : Obligations.GrantIssuesTheQueueHead := by
  intro s e q h hq
  rw [exec_grant_of_granted h]
  simp only [State.issue, State.issueHead, hq, State.setNext, Requester.after]

/-- A change of one entry of a table of different requests (R97). -/
theorem map_request {older younger : List ReadEntry} {e : ReadEntry}
    (distinct : ((older ++ e :: younger).map ReadEntry.request).Nodup) (f : ReadEntry → ReadEntry) :
    (older ++ e :: younger).map (fun x => if x.request = e.request then f x else x) =
      older ++ f e :: younger := by
  simp only [List.map_append, List.map_cons, List.nodup_append, List.nodup_cons, List.mem_map, List.mem_cons] at distinct
  obtain ⟨-, ⟨younger', -⟩, older'⟩ := distinct
  rw [List.map_append, List.map_cons, if_pos rfl]
  congr 2
  · refine List.map_congr_left (fun x hx => if_neg fun same => ?_) |>.trans (List.map_id _)
    exact older' _ ⟨x, hx, rfl⟩ _ (.inl rfl) same
  · refine List.map_congr_left (fun x hx => if_neg fun same => ?_) |>.trans (List.map_id _)
    exact younger' ⟨x, hx, same⟩

theorem updateRead_eq {s : State} {older younger : List ReadEntry} {e : ReadEntry}
    (reads : s.reads = older ++ e :: younger) (distinct : (s.reads.map ReadEntry.request).Nodup)
    (f : ReadEntry → ReadEntry) : s.updateRead e.request f = { s with reads := older ++ f e :: younger } := by
  rw [reads] at distinct
  rw [State.updateRead, reads, map_request distinct]

/-- The entry behind those that may not be issued is the one offered (R102). -/
theorem offeredRead_eq {s : State} {older younger : List ReadEntry} {e : ReadEntry}
    (reads : s.reads = older ++ e :: younger) (phase : e.phase = .queued none) (counted : e.counted = [])
    (first : ∀ x ∈ older, ¬ (x.phase = .queued none ∧ x.counted = [])) : s.offeredRead = some e := by
  have none : older.find? ReadEntry.eligible = Option.none :=
    List.find?_eq_none.2 fun x hx eligible => first x hx ((eligible_iff x).1 eligible)
  rw [State.offeredRead, reads, List.find?_append, none, Option.none_or,
    List.find?_cons_of_pos ((eligible_iff e).2 ⟨phase, counted⟩)]

/-- Settles O21: the oldest eligible entry is the one offered, and read slot A comes first. -/
theorem grantIssuesTheOldestRead : Obligations.GrantIssuesTheOldestRead := by
  intro s older younger e h reads distinct phase counted first
  rw [exec_grant_of_granted h]
  simp only [State.issue, offeredRead_eq reads phase counted first, State.issueRead, updateRead_eq reads distinct,
    State.setNext, Requester.after]
  refine ⟨fun free => ?_, fun taken => ?_⟩
  · rw [if_pos free]
  · rw [if_neg taken]

/-! ### The notice record (section 12.2) -/

/-- The parts of a word that is put together from two half-words and four bytes. -/
theorem parts_of_word (length seq : BitVec 16) (flags sector ring type : Byte) (a : Word)
    (h : a = length ++ seq ++ flags ++ sector ++ ring ++ type) :
    a.extractLsb' 0 8 = type ∧ a.extractLsb' 8 8 = ring ∧ a.extractLsb' 16 8 = sector ∧
      a.extractLsb' 24 8 = flags ∧ a.extractLsb' 32 16 = seq ∧ a.extractLsb' 48 16 = length := by
  refine ⟨?_, ?_, ?_, ?_, ?_, ?_⟩
  all_goals
    ext i hi
    simp only [h, BitVec.getElem_extractLsb', BitVec.getLsbD_append]
    grind

/-- The parts of a word that is put together from a double word and two half-words. -/
theorem parts_of_second_word (closeTime : BitVec 32) (highWater lost : BitVec 16) (b : Word)
    (h : b = closeTime ++ highWater ++ lost) :
    b.extractLsb' 0 16 = lost ∧ b.extractLsb' 16 16 = highWater ∧ b.extractLsb' 32 32 = closeTime := by
  refine ⟨?_, ?_, ?_⟩
  all_goals
    ext i hi
    simp only [h, BitVec.getElem_extractLsb', BitVec.getLsbD_append]
    grind

/-- A bit of a byte of a word. -/
theorem getLsbD_extract (a : Word) (start i : Nat) (h : i < 8) :
    a.getLsbD (start + i) = (a.extractLsb' start 8).getLsbD i := by
  simp [h]

/-- The bits of a flags byte, over the values that the flags can take. -/
theorem bits_of_flags : ∀ lost gap trailingDrop writeError aborted timedOut : Bool, ∀ x : Byte,
    x = (BitVec.ofBool lost ++ BitVec.ofBool gap ++ ((BitVec.ofBool trailingDrop ++ BitVec.ofBool writeError ++
      BitVec.ofBool aborted ++ BitVec.ofBool timedOut : BitVec 4).setWidth 8).setWidth 4 : BitVec 6).setWidth 8 →
    x.getLsbD 0 = timedOut ∧ x.getLsbD 1 = aborted ∧ x.getLsbD 2 = writeError ∧ x.getLsbD 3 = trailingDrop ∧
      x.getLsbD 4 = gap ∧ x.getLsbD 5 = lost ∧ x.getLsbD 6 = false ∧ x.getLsbD 7 = false := by
  simp only [forall_eq]
  decide

/-- The low byte of a record: the valid bit under the notice's type. -/
theorem typeByte_bits (t : NoticeType) :
    ((t.code <<< 1) ||| 1 : Byte).getLsbD 0 = true ∧
      ((t.code <<< 1) ||| 1 : Byte).extractLsb' 1 7 = t.code.setWidth 7 := by
  cases t <;> decide

/-- Settles O22: the head is written to the slot it was assigned, or to the one that W names, and the record is put
together from its bytes. -/
theorem grantWritesTheNotice : Obligations.GrantWritesTheNotice := by
  intro s n q h fifo
  rw [exec_grant_of_granted h]
  refine ⟨fun k slot => ?again, fun slot => ?first, n.notice.word0, n.notice.word1, rfl, ?_⟩
  case again =>
    have same : ({ n with slot := some k } : PendingNotice) = n := by rw [← slot]
    simp only [State.issue, State.issueNotice, fifo, slot, Option.getD_some, Option.isSome_some, if_true, same,
      State.setNext, Requester.after, NoticeUnit.slotAddress]
    rw [← fifo]
  case first =>
    simp [State.issue, State.issueNotice, fifo, slot, State.setNext, Requester.after, NoticeUnit.slotAddress]
  obtain ⟨type, ring, sector, flags, seq, length⟩ := parts_of_word _ _ _ _ _ _ n.notice.word0 rfl
  obtain ⟨lost, highWater, closeTime⟩ := parts_of_second_word _ _ _ n.notice.word1 rfl
  obtain ⟨timedOut, aborted, writeError, trailingDrop, gap, lostBit, sixth, seventh⟩ := bits_of_flags _ _ _ _ _ _ n.notice.flagsByte rfl
  obtain ⟨valid, code⟩ := typeByte_bits n.notice.type
  have flag : ∀ i, i < 8 → n.notice.word0.getLsbD (24 + i) = n.notice.flagsByte.getLsbD i := fun i hi => by
    rw [getLsbD_extract _ _ _ hi, flags]
  refine ⟨?_, ?_, ?_, ?_, (flag 0 (by decide)).trans timedOut, (flag 1 (by decide)).trans aborted,
    (flag 2 (by decide)).trans writeError, (flag 3 (by decide)).trans trailingDrop, (flag 4 (by decide)).trans gap,
    (flag 5 (by decide)).trans lostBit, (flag 6 (by decide)).trans sixth, (flag 7 (by decide)).trans seventh, seq,
    length, lost, highWater, closeTime⟩
  · exact (getLsbD_extract _ 0 0 (by decide)).trans (type ▸ valid)
  · have above : n.notice.word0.extractLsb' 1 7 = (n.notice.word0.extractLsb' 0 8).extractLsb' 1 7 := by
      ext i hi
      simp
    rw [above, type, code]
    cases n.notice.type <;> rfl
  · rw [ring, BitVec.toNat_ofNat]
    omega
  · rw [sector, BitVec.toNat_ofNat]
    omega

end Sys2Proof.Whole
end

section
/-! Responses and expiries of reads and notices in the terms of the statements: the end of a fetch, the wait of an owner
that is answered BUSY, and the intervals that have been counted. -/

namespace Sys2Proof.Whole

open Sys2Proof.Machine Sys2Proof.Safety Sys2Proof.Laws Sys2Proof.NoticeWrites

/-! ### The end of a fetch (R103, R105) -/

/-- The read slot of a tag holds the read, and t is the state with that slot FREE (R112, R114). -/
def fetchEnds (s t : State) (tag : BitVec 2) (k : ReadRequest) : Prop :=
  (tag = 1 ∧ s.link.readA = .occupied k ∧ t = { s with link := { s.link with readA := .free } }) ∨
    (tag = 2 ∧ s.link.readB = .occupied k ∧ t = { s with link := { s.link with readB := .free } })

theorem fetchEnds.holder {s t : State} {tag : BitVec 2} {k : ReadRequest} (h : fetchEnds s t tag k) :
    s.holder tag = .read k := by
  obtain ⟨rfl, slot, -⟩ | ⟨rfl, slot, -⟩ := h <;> simp [State.holder, slot, ReadSlot.holder]

theorem fetchEnds.freeSlot {s t : State} {tag : BitVec 2} {k : ReadRequest} (h : fetchEnds s t tag k) :
    s.freeSlot tag = t := by
  obtain ⟨rfl, -, rfl⟩ | ⟨rfl, -, rfl⟩ := h <;> rfl

theorem fetchEnds.reads {s t : State} {tag : BitVec 2} {k : ReadRequest} (h : fetchEnds s t tag k) :
    t.reads = s.reads ∧ t.pwq = s.pwq ∧ t.events = s.events := by
  obtain ⟨-, -, rfl⟩ | ⟨-, -, rfl⟩ := h <;> exact ⟨rfl, rfl, rfl⟩

theorem finishRead_eq {t : State} {older younger : List ReadEntry} {e : ReadEntry}
    (reads : t.reads = older ++ e :: younger) (distinct : (t.reads.map ReadEntry.request).Nodup)
    (f : ReadEntry → ReadEntry) :
    t.finishRead e.request f = { t with reads := older ++ e.finish t.pwq f :: younger } :=
  updateRead_eq reads distinct _

theorem finish_of_issued {e : ReadEntry} (h : e.phase = .issued false) (q : List QueueEntry)
    (f : ReadEntry → ReadEntry) : e.finish q f = f e := by
  simp only [ReadEntry.finish, h]

/-- A stale fetch is made again, behind the queue's writes of the line (R105). -/
theorem finish_of_stale {e : ReadEntry} (h : e.phase = .issued true) (q : List QueueEntry)
    (f : ReadEntry → ReadEntry) :
    e.finish q f = { e with phase := .queued none, attempts := 0, counted := lineHits (lineOf e.request.address) q } := by
  simp only [ReadEntry.finish, h]
  rfl

section
variable {s t : State} {tag : BitVec 2} {k : ReadRequest}

theorem exec_okay_of_fetch (h : fetchEnds s t tag k) (data : List Word) :
    exec (.okayResponse tag data) s = .next (t.finishRead k (s.completed (.data data))) := by
  show Host.Outcome.next (s.okay tag data) = _
  simp only [State.okay, h.holder, h.freeSlot]

theorem exec_error_of_fetch (h : fetchEnds s t tag k) (kind : ErrorKind) :
    exec (.errorResponse tag kind) s = .next ((t.post .memError).finishRead k (s.completed .memError)) := by
  show Host.Outcome.next (s.error tag) = _
  simp only [State.error, h.holder, h.freeSlot]

theorem exec_busy_of_fetch (h : fetchEnds s t tag k) :
    exec (.busyResponse tag) s = .next (t.countBusy.finishRead k s.busyEntry) := by
  show Host.Outcome.next (s.busy tag) = _
  simp only [State.busy, h.holder, h.freeSlot]

end

/-- Settles O26: the response finds the read by its slot, and its stale flag decides what the fetch has brought. -/
theorem fetchEndsAtItsResponse : Obligations.FetchEndsAtItsResponse := by
  intro s t older younger e tag data kind reads distinct ends
  have ends : fetchEnds s t tag e.request := ends
  obtain ⟨same, pwq, events⟩ := ends.reads
  have reads' : t.reads = older ++ e :: younger := same.trans reads
  have distinct' : (t.reads.map ReadEntry.request).Nodup := by rwa [same]
  rw [exec_okay_of_fetch ends, exec_error_of_fetch ends, finishRead_eq reads' distinct',
    finishRead_eq (t := t.post .memError) reads' distinct', ← events, ← pwq]
  refine ⟨fun fresh => ?_, fun stale => ?_⟩
  · rw [finish_of_issued fresh, finish_of_issued fresh]
    exact ⟨rfl, rfl⟩
  · rw [finish_of_stale stale, finish_of_stale stale]
    exact ⟨rfl, rfl⟩

/-! ### Expiries (R107, R122) -/

theorem endBackoff_of_counted {e : ReadEntry} (h : e.phase = .queued (some 0)) :
    e.endBackoff = { e with phase := .queued none } := if_pos h

theorem endBackoff_of_not_counted {e : ReadEntry} (h : e.phase ≠ .queued (some 0)) : e.endBackoff = e := if_neg h

/-- A read without an entry has none to change. -/
theorem updateRead_of_absent {s : State} {k : ReadRequest} (absent : ∀ e ∈ s.reads, e.request ≠ k)
    (f : ReadEntry → ReadEntry) : s.updateRead k f = s := by
  have same : s.reads.map (fun e => if e.request = k then f e else e) = s.reads :=
    (List.map_congr_left fun e he => if_neg (absent e he)).trans (List.map_id _)
  rw [State.updateRead, same]

/-- The entry of a read alone is removed (R97). -/
theorem removeRead_eq {s : State} {older younger : List ReadEntry} {e : ReadEntry}
    (reads : s.reads = older ++ e :: younger) (distinct : (s.reads.map ReadEntry.request).Nodup) :
    s.removeRead e.request = { s with reads := older ++ younger } := by
  rw [reads] at distinct
  simp only [List.map_append, List.map_cons, List.nodup_append, List.nodup_cons, List.mem_map,
    List.mem_cons] at distinct
  obtain ⟨-, ⟨younger', -⟩, older'⟩ := distinct
  have kept : (older ++ e :: younger).filter (fun x => decide (x.request ≠ e.request)) = older ++ younger := by
    rw [List.filter_append, List.filter_cons_of_neg (by simp), List.filter_eq_self.2, List.filter_eq_self.2]
    · exact fun x hx => decide_eq_true fun same => younger' ⟨x, hx, same⟩
    · exact fun x hx => decide_eq_true fun same => older' _ ⟨x, hx, rfl⟩ _ (.inl rfl) same
  rw [State.removeRead, reads, kept]

theorem expired_iff (e : ReadEntry) : e.expired = true ↔ ∃ x, e.phase = .complete x 0 := by
  unfold ReadEntry.expired
  split <;> simp_all

theorem exec_backoffExpiry (owner : BackoffOwner) (s : State) :
    exec (.backoffExpiry owner) s = .next (s.endBackoff owner) := rfl

theorem exec_discardTimerExpiry (k : ReadRequest) (s : State) :
    exec (.discardTimerExpiry k) s = .next (s.expireRead k) := rfl

/-- Settles O30: an expiry finds its owner and asks whether the interval has been counted. -/
theorem expiriesAreTakenWhenDue : Obligations.ExpiriesAreTakenWhenDue := by
  intro s
  simp only [exec_backoffExpiry, exec_discardTimerExpiry]
  refine ⟨fun due => ?head, fun notDue => ?noHead, fun n q fifo due => ?notice, fun notDue => ?noNotice,
    fun older e younger reads distinct => ⟨fun due => ?read, fun notDue => ?noRead, fun x due => ?discard,
      fun notDue => ?noDiscard⟩, fun k absent => ⟨?absent, ?absentDiscard⟩⟩
  case head => simp only [State.endBackoff, if_pos due]
  case noHead => simp only [State.endBackoff, if_neg notDue]
  case notice => simp only [State.endBackoff, State.endNoticeBackoff, fifo, if_pos due]
  case noNotice =>
    simp only [State.endBackoff, State.endNoticeBackoff]
    cases fifo : s.notices.fifo with
    | nil => rfl
    | cons n q => simp only [if_neg (notDue n q fifo)]
  case read => rw [State.endBackoff, updateRead_eq reads distinct, endBackoff_of_counted due]
  case noRead => rw [State.endBackoff, updateRead_eq reads distinct, endBackoff_of_not_counted notDue, ← reads]
  case discard =>
    have found : s.findRead e.request = some e := findRead_of_mem distinct (by simp [reads])
    simp only [State.expireRead, found, if_pos ((expired_iff e).2 ⟨x, due⟩), removeRead_eq reads distinct]
    rfl
  case noDiscard =>
    have found : s.findRead e.request = some e := findRead_of_mem distinct (by simp [reads])
    have running : ¬ e.expired = true := fun expired => by
      obtain ⟨x, hx⟩ := (expired_iff e).1 expired
      exact notDue x hx
    simp only [State.expireRead, found, if_neg running]
  case absent => rw [State.endBackoff, updateRead_of_absent absent]
  case absentDiscard => simp only [State.expireRead, findRead_none.2 absent]

end Sys2Proof.Whole
end

section
/-! Departures of the queue head in the terms of the statements: what the departure of a tagged entry makes of its
sector, and the retirements behind it. -/

namespace Sys2Proof.Whole

open Sys2Proof.Machine Sys2Proof.Safety Sys2Proof.Laws

/-! ### A tagged entry leaves its sector (R17, R19, R21, R24) -/

theorem headless_record (s : State) (q : List QueueEntry) (r : RingNo) (i : SectorNo) :
    (headless s q).record r i = s.record r i := rfl

theorem settle_of_closing {s : State} {r : RingNo} {i : SectorNo} (zero : (s.record r i).pending = 0)
    (closing : (s.record r i).state = .closing) : s.settle r i = s.becomeReady r i := by
  simp only [State.settle, zero, closing, if_true]

theorem settle_of_releasing {s : State} {r : RingNo} {i : SectorNo} (zero : (s.record r i).pending = 0)
    (releasing : (s.record r i).state = .releasing) : s.settle r i = (s.becomeFree r i).stopTest r := by
  simp only [State.settle, zero, releasing, if_true]

theorem settle_of_purging {s : State} {r : RingNo} {i : SectorNo} (zero : (s.record r i).pending = 0)
    (purging : (s.record r i).state = .purging) : s.settle r i = (s.becomeFree r i).purgeTest r := by
  simp only [State.settle, zero, purging, if_true]

theorem settle_of_stays {s : State} {r : RingNo} {i : SectorNo}
    (h : (s.record r i).pending ≠ 0 ∨ (s.record r i).state = .filling) : s.settle r i = s := by
  unfold State.settle
  obtain some | filling := h
  · rw [if_neg some]
  · simp only [filling, ite_self]

/-- A sector that keeps entries, or is FILLING, only counts the departure (R13, R22). -/
theorem leaveSector_keeps {t : State} {r : RingNo} {i : SectorNo}
    (h : 2 ≤ (t.record r i).pending ∨ (t.record r i).state = .filling) (lost : Bool) :
    t.leaveSector r i lost =
      withRecord t r i (errorIf lost { t.record r i with pending := (t.record r i).pending - 1 }) := by
  rw [leaveSector_eq, settle_of_stays]
  refine h.imp (fun some => ?_) fun filling => ?_
  · simp only [withRecord_record, and_self, if_true, errorIf]
    omega
  · simpa [errorIf] using filling

/-- The record that is delivered is the one that is given. -/
theorem delivered_withRecord (t : State) (r : RingNo) (i : SectorNo) (x y : SectorRecord) :
    delivered (withRecord t r i x) r i y = delivered t r i y := by simp [delivered]

/-- The last write of a CLOSING sector delivers its message (R17, R24). -/
theorem leaveSector_closing {t : State} {r : RingNo} {i : SectorNo} (one : (t.record r i).pending = 1)
    (closing : (t.record r i).state = .closing) (lost : Bool) :
    t.leaveSector r i lost = delivered t r i (errorIf lost (t.record r i)) := by
  rw [leaveSector_eq, one, settle_of_closing (by simp [errorIf]) (by simpa [errorIf] using closing),
    becomeReady_eq _ _ _ (by simp [errorIf]), delivered_withRecord, withRecord_record, if_pos ⟨rfl, rfl⟩]
  rfl

/-- The last entry of a RELEASING sector frees it, and its ring takes the test (R19, R151). -/
theorem leaveSector_releasing {t : State} {r : RingNo} {i : SectorNo} (one : (t.record r i).pending = 1)
    (releasing : (t.record r i).state = .releasing) (lost : Bool) :
    t.leaveSector r i lost =
      (withRecord t r i (errorIf lost { t.record r i with state := .free, pending := 0 })).stopTest r := by
  rw [leaveSector_eq, one, settle_of_releasing (by simp [errorIf]) (by simpa [errorIf] using releasing),
    State.becomeFree, setRecord_eq, withRecord_withRecord, withRecord_record, if_pos ⟨rfl, rfl⟩]
  rfl

/-- The last entry of a PURGING sector frees it, and its ring takes the test (R21, R153). -/
theorem leaveSector_lastPurging {t : State} {r : RingNo} {i : SectorNo} (one : (t.record r i).pending = 1)
    (purging : (t.record r i).state = .purging) (lost : Bool) :
    t.leaveSector r i lost =
      (withRecord t r i (errorIf lost { t.record r i with state := .free, pending := 0 })).purgeTest r := by
  rw [leaveSector_eq, one, settle_of_purging (by simp [errorIf]) (by simpa [errorIf] using purging),
    State.becomeFree, setRecord_eq, withRecord_withRecord, withRecord_record, if_pos ⟨rfl, rfl⟩]
  rfl

theorem errorIf_false (x : SectorRecord) : errorIf false x = x := by simp [errorIf]

/-! ### The tests for OFF (R151, R153) -/

/-- With sector i FREE, the ring has every sector FREE where the others are. -/
theorem allFree_withRecord {t : State} {r : RingNo} {i : SectorNo} {x : SectorRecord} (free : x.state = .free) :
    (withRecord t r i x).allFree r = true ↔ ∀ j, j ≠ i → (t.record r j).state = .free := by
  rw [allFree_iff]
  constructor
  · intro h j ne
    simpa [ne] using h j
  · intro h j
    by_cases e : j = i
    · simp [e, free]
    · simpa [e] using h j e

theorem stopTest_turnsOff {t : State} {r : RingNo} {i : SectorNo} {x : SectorRecord} (free : x.state = .free)
    (stopping : (t.ring r).lifecycle = .stopping) (idle : (t.ring r).fillState = .idle)
    (others : ∀ j, j ≠ i → (t.record r j).state = .free) :
    (withRecord t r i x).stopTest r = turnedOff (withRecord t r i x) r .ringOff := by
  rw [State.stopTest, if_pos ⟨stopping, idle, (allFree_withRecord free).2 others⟩, turnOff_eq]

theorem stopTest_keeps {t : State} {r : RingNo} {i : SectorNo} {x : SectorRecord} (free : x.state = .free)
    (h : ¬ ((t.ring r).lifecycle = .stopping ∧ (t.ring r).fillState = .idle ∧
      ∀ j, j ≠ i → (t.record r j).state = .free)) :
    (withRecord t r i x).stopTest r = withRecord t r i x :=
  if_neg fun ⟨stopping, idle, all⟩ => h ⟨stopping, idle, (allFree_withRecord free).1 all⟩

theorem purgeTest_turnsOff {t : State} {r : RingNo} {i : SectorNo} {x : SectorRecord} (free : x.state = .free)
    (purging : (t.ring r).lifecycle = .purging) (others : ∀ j, j ≠ i → (t.record r j).state = .free) :
    (withRecord t r i x).purgeTest r = turnedOff (withRecord t r i x) r .purged := by
  rw [State.purgeTest, if_pos ⟨purging, (allFree_withRecord free).2 others⟩, turnOff_eq]

theorem purgeTest_keeps {t : State} {r : RingNo} {i : SectorNo} {x : SectorRecord} (free : x.state = .free)
    (h : ∃ j, j ≠ i ∧ (t.record r j).state ≠ .free) :
    (withRecord t r i x).purgeTest r = withRecord t r i x := by
  obtain ⟨j, ne, busy⟩ := h
  exact if_neg fun ⟨_, all⟩ => busy ((allFree_withRecord free).1 all j ne)

/-! ### The retirements behind the head (R90) -/

theorem reaches_of_retire {c : Instr} {s t : State} (h : exec c s = .next t.retire) : Reaches c s t :=
  ⟨t.retire, retire_retired t, h⟩

/-- A head that waits and is to be retired is the first to be. -/
theorem retired_purgedAway {t u : State} {e : QueueEntry} {q : List QueueEntry} {r : RingNo} {i : SectorNo}
    (h : Retired t u) (waits : t.headIssue ≠ .inFlight) (hq : t.pwq = e :: q)
    (kind : e.kind = .fill r i ∨ e.kind = .close r i) (purging : (t.record r i).state = .purging) :
    Retired (purgedAway (headless t q) r i) u := by
  have first := Retired.retire t _ e q r i waits hq kind purging (retire_retired (purgedAway (headless t q) r i))
  rw [retired_unique h first]
  exact retire_retired _

section
variable {s t : State} {e : QueueEntry} {q : List QueueEntry} {c : Instr} {lost : Bool} {v : EventUnit}
  (slot : s.link.writeSlot = .occupied .queueHead) (hq : s.pwq = e :: q) (ends : endsHead s e c lost v)
  (ht : t = headless { s with link := { s.link with writeSlot := .free }, events := v } q)
include slot hq ends ht

theorem reaches_of_pass (kind : e.kind = .pass) : Reaches c s t := by
  have departs := head_departs slot hq ends ht
  rw [kind] at departs
  exact reaches_of_retire departs

theorem reaches_of_write {r : RingNo} {i : SectorNo} (kind : e.kind = .fill r i ∨ e.kind = .close r i) :
    Reaches c s (t.leaveSector r i lost) := by
  have departs := head_departs slot hq ends ht
  obtain kind | kind := kind <;> rw [kind] at departs <;> exact reaches_of_retire departs

theorem reaches_of_release {r : RingNo} {i : SectorNo} (kind : e.kind = .release r i) :
    Reaches c s (t.leaveSector r i false) := by
  have departs := head_departs slot hq ends ht
  rw [kind] at departs
  exact reaches_of_retire departs

end

/-- Settles O23: the head's departure counts in its sector, and a head behind it that is to be retired is the first
retirement. -/
theorem headLeavesAtItsResponse : Obligations.HeadLeavesAtItsResponse := by
  intro s t e q c lost v slot hq ends ht
  have record : ∀ r i, t.record r i = s.record r i := fun r i => by rw [ht]; rfl
  refine ⟨fun pass => reaches_of_pass slot hq ends ht pass, fun r i kind keeps => ?_,
    fun e' q' r i pass hq' kind purging => ?_⟩
  · have left := reaches_of_write slot hq ends ht kind
    rwa [leaveSector_keeps (by rwa [record]), record] at left
  · obtain ⟨u, retired, reached⟩ := reaches_of_pass slot hq ends ht pass
    refine ⟨u, retired_purgedAway retired ?_ ?_ kind (by rwa [record]), reached⟩
    · simp [ht, headless]
    · rw [ht]
      exact hq'

/-- Settles O24: the count of the last entry's sector falls to 0, and its state decides. -/
theorem lastDepartureMovesTheSector : Obligations.LastDepartureMovesTheSector := by
  intro s t e q r i c lost v slot hq ends one ht
  have record : ∀ r i, t.record r i = s.record r i := fun r i => by rw [ht]; rfl
  have ring : ∀ r, t.ring r = s.ring r := fun r => by rw [ht]; rfl
  have one' : (t.record r i).pending = 1 := by rwa [record]
  refine ⟨fun kind closing => ?_, fun kind releasing notDrained => ?_,
    fun purging others => ⟨fun kind => ?_, fun kind => ?_⟩⟩
  · have left := reaches_of_write slot hq ends ht kind
    rwa [leaveSector_closing one' (by rwa [record]), record] at left
  · have left := reaches_of_release slot hq ends ht kind
    rwa [leaveSector_releasing one' (by rwa [record]), errorIf_false, stopTest_keeps rfl (by simpa only [record, ring]),
      record] at left
  · have left := reaches_of_write slot hq ends ht kind
    rwa [leaveSector_lastPurging one' (by rwa [record]), purgeTest_keeps rfl (by simpa only [record]), record] at left
  · have left := reaches_of_release slot hq ends ht kind
    rwa [leaveSector_lastPurging one' (by rwa [record]), errorIf_false, purgeTest_keeps rfl (by simpa only [record]),
      record] at left

/-- Settles O25: with every other sector FREE the last departure's test turns the ring OFF. -/
theorem drainedRingsTurnOff : Obligations.DrainedRingsTurnOff := by
  intro s t e q r i c lost v slot hq ends one others ht
  have record : ∀ r i, t.record r i = s.record r i := fun r i => by rw [ht]; rfl
  have ring : ∀ r, t.ring r = s.ring r := fun r => by rw [ht]; rfl
  have one' : (t.record r i).pending = 1 := by rwa [record]
  have others' : ∀ j, j ≠ i → (t.record r j).state = .free := by simpa only [record] using others
  refine ⟨fun kind releasing stopping idle => ?_, fun purging lifecycle => ⟨fun kind => ?_, fun kind => ?_⟩⟩
  · have left := reaches_of_release slot hq ends ht kind
    rwa [leaveSector_releasing one' (by rwa [record]), errorIf_false,
      stopTest_turnsOff rfl (by rwa [ring]) (by rwa [ring]) others', record] at left
  · have left := reaches_of_write slot hq ends ht kind
    rwa [leaveSector_lastPurging one' (by rwa [record]), purgeTest_turnsOff rfl (by rwa [ring]) others',
      record] at left
  · have left := reaches_of_release slot hq ends ht kind
    rwa [leaveSector_lastPurging one' (by rwa [record]), errorIf_false,
      purgeTest_turnsOff rfl (by rwa [ring]) others', record] at left

end Sys2Proof.Whole
end

section
/-! BUSY responses in the terms of the statements: the owner waits, or gives up at its budget; a flag that is set before
a departure stays set beside all that the departure does. -/

namespace Sys2Proof.Whole

open Sys2Proof.Machine Sys2Proof.Safety Sys2Proof.Laws Sys2Proof.NoticeWrites Sys2Proof.StrayResponses

/-! ### What a departure neither reads nor replaces -/

/-- The state with more flags set, and with another management port: the ring's side and the queue read neither. -/
def beside (m : BitVec 9) (g : Port → Port) (s : State) : State :=
  { s with events := { s.events with flags := s.events.flags ||| m }, port := g s.port }

section
variable (m : BitVec 9) (g : Port → Port)

@[simp] theorem beside_pwq (s : State) : (beside m g s).pwq = s.pwq := rfl
@[simp] theorem beside_headIssue (s : State) : (beside m g s).headIssue = s.headIssue := rfl
@[simp] theorem beside_record (s : State) (r : RingNo) (i : SectorNo) : (beside m g s).record r i = s.record r i := rfl

theorem post_beside (s : State) (e : EventFlag) :
    (beside m g s).post e = beside m g (s.post e) := by
  simp only [State.post, beside, BitVec.or_assoc, BitVec.or_comm m e.mask]

theorem pushNotice_beside (s : State) (n : Notice) :
    (beside m g s).pushNotice n = beside m g (s.pushNotice n) := by
  by_cases room : s.notices.fifo.length < 16
  · have before : (beside m g s).pushNotice n = _ := if_pos room
    have after : s.pushNotice n = _ := if_pos room
    rw [before, after]
    rfl
  · have before : (beside m g s).pushNotice n = _ := if_neg room
    have after : s.pushNotice n = _ := if_neg room
    rw [before, after, ← post_beside]
    rfl

theorem generate_beside (s : State) (n : Notice) : (beside m g s).generate n = beside m g (s.generate n) := by
  by_cases enabled : s.notices.enabled = true
  · have before : (beside m g s).generate n = _ := if_pos enabled
    have after : s.generate n = _ := if_pos enabled
    rw [before, after, ← pushNotice_beside]
    rfl
  · have before : (beside m g s).generate n = _ := if_neg enabled
    have after : s.generate n = _ := if_neg enabled
    rw [before, after]

theorem turnOff_beside (s : State) (r : RingNo) (t : NoticeType) :
    (beside m g s).turnOff r t = beside m g (s.turnOff r t) :=
  generate_beside m g ({ s.setRing r { s.ring r with lifecycle := .off } with decode := s.decode.set r none } : State) _

theorem stopTest_beside (s : State) (r : RingNo) : (beside m g s).stopTest r = beside m g (s.stopTest r) := by
  by_cases due : (s.ring r).lifecycle = .stopping ∧ (s.ring r).fillState = .idle ∧ s.allFree r = true
  · have before : (beside m g s).stopTest r = _ := if_pos due
    have after : s.stopTest r = _ := if_pos due
    rw [before, after, turnOff_beside]
  · have before : (beside m g s).stopTest r = _ := if_neg due
    have after : s.stopTest r = _ := if_neg due
    rw [before, after]

theorem purgeTest_beside (s : State) (r : RingNo) : (beside m g s).purgeTest r = beside m g (s.purgeTest r) := by
  by_cases due : (s.ring r).lifecycle = .purging ∧ s.allFree r = true
  · have before : (beside m g s).purgeTest r = _ := if_pos due
    have after : s.purgeTest r = _ := if_pos due
    rw [before, after, turnOff_beside]
  · have before : (beside m g s).purgeTest r = _ := if_neg due
    have after : s.purgeTest r = _ := if_neg due
    rw [before, after]

theorem becomeReady_beside (s : State) (r : RingNo) (i : SectorNo) :
    (beside m g s).becomeReady r i = beside m g (s.becomeReady r i) := by
  by_cases on : (s.cfg r).noticesOn = true
  · have before : (beside m g s).becomeReady r i = _ := if_pos on
    have after : s.becomeReady r i = _ := if_pos on
    rw [before, after, ← generate_beside]
    rfl
  · have before : (beside m g s).becomeReady r i = _ := if_neg on
    have after : s.becomeReady r i = _ := if_neg on
    rw [before, after]
    rfl

theorem settle_beside (s : State) (r : RingNo) (i : SectorNo) :
    (beside m g s).settle r i = beside m g (s.settle r i) := by
  have freed : (beside m g s).becomeFree r i = beside m g (s.becomeFree r i) := rfl
  by_cases zero : (s.record r i).pending = 0
  · cases state : (s.record r i).state with
    | closing => rw [settle_of_closing zero state, settle_of_closing (s := beside m g s) zero state, becomeReady_beside]
    | releasing =>
      rw [settle_of_releasing zero state, settle_of_releasing (s := beside m g s) zero state, freed, stopTest_beside]
    | purging =>
      rw [settle_of_purging zero state, settle_of_purging (s := beside m g s) zero state, freed, purgeTest_beside]
    | filling => rw [settle_of_stays (.inr state), settle_of_stays (s := beside m g s) (.inr state)]
    | free | ready => simp only [State.settle, beside_record, state, ite_self]
  · rw [settle_of_stays (.inl zero), settle_of_stays (s := beside m g s) (.inl zero)]

theorem leaveSector_beside (s : State) (r : RingNo) (i : SectorNo) (lost : Bool) :
    (beside m g s).leaveSector r i lost = beside m g (s.leaveSector r i lost) :=
  settle_beside m g (s.setRecord r i { s.record r i with
    pending := (s.record r i).pending - 1
    flags := { (s.record r i).flags with writeError := (s.record r i).flags.writeError || lost } }) r i

theorem reportLost_beside (s : State) (lost : Bool) :
    (beside m g s).reportLost lost = beside m g (s.reportLost lost) := by
  cases lost with
  | false => rfl
  | true =>
    show ((beside m g s).countWriteLost.post .writeLost) = beside m g (s.countWriteLost.post .writeLost)
    rw [← post_beside]
    rfl

theorem popHead_beside (s : State) (lost : Bool) : (beside m g s).popHead lost = beside m g (s.popHead lost) := by
  have dropped : (beside m g s).dropHead.reportLost lost = beside m g (s.dropHead.reportLost lost) :=
    reportLost_beside m g s.dropHead lost
  unfold State.popHead
  rw [beside_pwq, dropped]
  cases s.pwq with
  | nil => rfl
  | cons e q => cases kind : e.kind <;> simp only [kind, leaveSector_beside]

theorem retireUpTo_beside : ∀ n (s : State),
    State.retireUpTo n (beside m g s) = beside m g (State.retireUpTo n s)
  | 0, _ => rfl
  | n + 1, s => by
    have same : (beside m g s).headIsPurged = s.headIsPurged := rfl
    unfold State.retireUpTo
    rw [same, beside_headIssue, popHead_beside, retireUpTo_beside n]
    split <;> rfl

theorem retire_beside (s : State) : (beside m g s).retire = beside m g s.retire :=
  retireUpTo_beside m g _ s

end

/-! ### The owner of a write slot that is answered BUSY (R85, R89, R90, R139) -/

theorem budgetReached_iff (s : State) (attempts : BitVec 16) :
    s.budgetReached (satSucc attempts) = true ↔ spent s attempts := by
  simp only [State.budgetReached, spent, Bool.and_eq_true, decide_eq_true_eq]

theorem budgetReached_eq_false {s : State} {attempts : BitVec 16} (h : ¬ spent s attempts) :
    s.budgetReached (satSucc attempts) = false :=
  Bool.eq_false_iff.2 (h ∘ (budgetReached_iff s attempts).1)

theorem exec_busy_of_queueHead {s : State} (slot : s.link.writeSlot = .occupied .queueHead) :
    exec (.busyResponse 0) s = .next (s.freeSlot 0).countBusy.headBusy := by
  have holder : s.holder 0 = .queueHead := by simp [State.holder, slot]
  show Host.Outcome.next (s.busy 0) = _
  simp only [State.busy, holder]

theorem exec_busy_of_noticeHead {s : State} (slot : s.link.writeSlot = .occupied .noticeHead) :
    exec (.busyResponse 0) s = .next (s.freeSlot 0).countBusy.noticeBusy := by
  show Host.Outcome.next (s.busy 0) = _
  simp only [State.busy, holder_write_of_noticeHead slot]

theorem retires_cons (s : State) (e : QueueEntry) (q : List QueueEntry) :
    retires s (e :: q) ↔ ∃ r i, (e.kind = .fill r i ∨ e.kind = .close r i) ∧ (s.record r i).state = .purging := by
  simp [retires]

/-- The head with its attempt count raised. -/
theorem raiseHeadAttempts_eq {s : State} {e : QueueEntry} {q : List QueueEntry} (hq : s.pwq = e :: q) :
    s.raiseHeadAttempts = { s with pwq := { e with attempts := satSucc e.attempts } :: q } := by
  simp only [State.raiseHeadAttempts, hq]

theorem headBusy_purged {s : State} {e : QueueEntry} {q : List QueueEntry} (hq : s.pwq = e :: q)
    (below : ¬ spent s e.attempts) (purged : retires s s.pwq) : s.headBusy = s.raiseHeadAttempts.depart false := by
  have retired : s.raiseHeadAttempts.headIsPurged = true := by
    rw [hq, retires_cons] at purged
    rwa [raiseHeadAttempts_eq hq, headIsPurged_iff, retires_cons]
  have under : s.raiseHeadAttempts.budgetReached s.raiseHeadAttempts.headAttempts = false := by
    rw [raiseHeadAttempts_eq hq]
    exact budgetReached_eq_false below
  simp only [State.headBusy, under, retired, if_true, Bool.false_eq_true, if_false]

theorem headBusy_waits {s : State} {e : QueueEntry} {q : List QueueEntry} (hq : s.pwq = e :: q)
    (below : ¬ spent s e.attempts) (kept : ¬ retires s s.pwq) : s.headBusy = s.raiseHeadAttempts.headBackoff := by
  have stays : s.raiseHeadAttempts.headIsPurged = false := by
    rw [hq, retires_cons] at kept
    rwa [raiseHeadAttempts_eq hq, headIsPurged_eq_false, retires_cons]
  have under : s.raiseHeadAttempts.budgetReached s.raiseHeadAttempts.headAttempts = false := by
    rw [raiseHeadAttempts_eq hq]
    exact budgetReached_eq_false below
  simp only [State.headBusy, under, stays, Bool.false_eq_true, if_false]

/-- A purged head leaves as any other retirement, whatever its attempt count. -/
theorem raised_departs {s : State} {e : QueueEntry} {q : List QueueEntry} {r : RingNo} {i : SectorNo}
    (hq : s.pwq = e :: q) (kind : e.kind = .fill r i ∨ e.kind = .close r i)
    (purging : (s.record r i).state = .purging) :
    Retired (purgedAway (headless s q) r i) (s.raiseHeadAttempts.depart false) := by
  have raised := raiseHeadAttempts_eq hq
  have first := depart_retired s.raiseHeadAttempts false
  rw [popHead_purging (congrArg State.pwq raised) kind (by rwa [raised])] at first
  rwa [raised] at first ⊢

theorem noticeBusy_waits {s : State} {n : PendingNotice} {q : List PendingNotice} (fifo : s.notices.fifo = n :: q)
    (below : ¬ spent s n.attempts) :
    s.noticeBusy = { s with notices := { s.notices with
      fifo := { n with attempts := satSucc n.attempts, backoff := s.backoffInterval } :: q } } := by
  simp only [State.noticeBusy, fifo, budgetReached_eq_false below, Bool.false_eq_true, if_false]

theorem noticeBusy_spent {s : State} {n : PendingNotice} {q : List PendingNotice} (fifo : s.notices.fifo = n :: q)
    (sp : spent s n.attempts) : s.noticeBusy = s.noticeLeaves.post .noticeLost := by
  simp only [State.noticeBusy, fifo, (budgetReached_iff s n.attempts).2 sp, if_true]

theorem memError_beside (s : State) : s.post .memError = beside EventFlag.memError.mask id s := rfl

/-- The budget drop and the ERROR response differ in MEM_ERROR alone (R88, R89). -/
theorem busy_and_error_alike {s : State} {e : QueueEntry} {q : List QueueEntry} (kind : ErrorKind)
    (slot : s.link.writeSlot = .occupied .queueHead) (hq : s.pwq = e :: q) (sp : spent s e.attempts) :
    ∃ u, exec (.busyResponse 0) s = .next u ∧
      exec (.errorResponse 0 kind) { s with events := { s.events with counters := { s.events.counters with
        busyResponses := satSucc s.events.counters.busyResponses } } } =
        .next { u with events := { u.events with flags := u.events.flags ||| 0x02 } } := by
  have busy := head_departs slot hq (.inr (.inr ⟨rfl, sp, rfl, rfl⟩)) rfl
  have error := head_departs (s := { s with events := { s.events with counters := { s.events.counters with
    busyResponses := satSucc s.events.counters.busyResponses } } }) slot hq (.inr (.inl ⟨⟨kind, rfl⟩, rfl, rfl⟩)) rfl
  refine ⟨_, busy, error.trans ?_⟩
  have both : s.events.flags ||| 0x03 = s.events.flags ||| 0x01 ||| EventFlag.memError.mask :=
    (BitVec.or_assoc s.events.flags 0x01 0x02).symm
  have start : ∀ t : State, { t with events := { t.events with flags := t.events.flags ||| 0x02 } } = t.post .memError :=
    fun _ => rfl
  rw [start, memError_beside, ← retire_beside]
  congr 2
  cases e.kind
  case pass => simp only [both]; rfl
  case fill | close | release =>
    rw [← leaveSector_beside]
    simp only [both]
    rfl

/-- Settles O28: the holder of the slot, its attempt count and the sector of a tagged head decide. -/
theorem busyOwnersWaitOrGiveUp : Obligations.BusyOwnersWaitOrGiveUp := by
  rintro s _ rfl
  refine ⟨fun e q t slot hq ht => ⟨fun below kept => ?waits, fun r i below kind purging => ?purged,
    fun sp => ⟨fun pass => ?pass, fun kind => ?error⟩⟩, fun older e younger tag t reads distinct ends => ?read,
    fun n q t slot fifo ht => ⟨fun below => ?noticeWaits, fun sp => ?noticeLost⟩⟩
  case waits =>
    rw [exec_busy_of_queueHead slot, headBusy_waits (s := (s.freeSlot 0).countBusy) hq below kept,
      raiseHeadAttempts_eq (s := (s.freeSlot 0).countBusy) hq, ht]
    by_cases none : s.link.backoff = 0
    · rw [if_pos none, State.headBackoff, State.backoffInterval, if_pos (by exact none)]
      rfl
    · rw [if_neg none, State.headBackoff, State.backoffInterval, if_neg (by exact none)]
      rfl
  case purged =>
    have purged : retires s s.pwq := by
      rw [hq, retires_cons]
      exact ⟨r, i, kind, purging⟩
    rw [Reaches, exec_busy_of_queueHead slot, headBusy_purged (s := (s.freeSlot 0).countBusy) hq below purged, ht]
    exact ⟨_, raised_departs (s := (s.freeSlot 0).countBusy) hq kind purging, rfl⟩
  case pass =>
    rw [ht]
    exact reaches_of_pass slot hq (.inr (.inr ⟨rfl, sp, rfl, rfl⟩)) rfl pass
  case error =>
    rw [ht]
    exact busy_and_error_alike kind slot hq sp
  case read =>
    have ends : fetchEnds s t tag e.request := ends
    obtain ⟨same, pwq, events⟩ := ends.reads
    rw [exec_busy_of_fetch ends, finishRead_eq (t := t.countBusy) (same.trans reads) (by rwa [← same] at distinct),
      ← events, ← pwq]
    refine ⟨fun fresh below => ?_, fun fresh sp => ?_, fun stale => ?_⟩
    · rw [finish_of_issued fresh, State.busyEntry, budgetReached_eq_false below]
      rfl
    · rw [finish_of_issued fresh, State.busyEntry, if_pos ((budgetReached_iff s e.attempts).2 sp)]
      rfl
    · rw [finish_of_stale stale]
      rfl
  case noticeWaits =>
    rw [exec_busy_of_noticeHead slot, noticeBusy_waits (s := (s.freeSlot 0).countBusy) fifo below, ht]
    rfl
  case noticeLost =>
    have rest : (s.freeSlot 0).countBusy.notices.fifo.tail = q := congrArg List.tail fifo
    rw [exec_busy_of_noticeHead slot, noticeBusy_spent (s := (s.freeSlot 0).countBusy) fifo sp, State.noticeLeaves,
      rest, ht]
    rfl

end Sys2Proof.Whole
end

section
/-! Time in the terms of the statements: the expiry of a fill timer, and the tick that every running timer counts. -/

namespace Sys2Proof.Whole

open Sys2Proof.Machine Sys2Proof.Safety Sys2Proof.Laws Sys2Proof.Producer

/-! ### Fill timers (R15, R48, R49) -/

/-- The state in which the expiry of a ring's fill timer is counted and flagged, and the message still open. -/
def timedOutAt (s : State) (r : RingNo) : State :=
  withRing { s with events := { s.events with flags := s.events.flags ||| 0x40 } } r (s.ring r).countFillTimeout

@[simp] theorem timedOutAt_ring (s : State) (r : RingNo) : (timedOutAt s r).ring r = (s.ring r).countFillTimeout := by
  simp [timedOutAt]

theorem exec_fillTimerExpiry_of_due {s : State} {r : RingNo} (due : (s.ring r).fillTimer = some 0) :
    exec (.fillTimerExpiry r) s = .next ((timedOutAt s r).closeCurrent r SectorFlags.markTimedOut) := by
  show Host.Outcome.next (s.expireFill r) = _
  rw [State.expireFill, if_pos due, setRing_eq]
  rfl

/-- The runtime record of the ring once the message or shadow has ended. -/
theorem closedRing_timedOutAt (s : State) (r : RingNo) :
    withRing (timedOutAt s r) r (closedRing (timedOutAt s r) r ((timedOutAt s r).ring r)) =
      withRing { s with events := { s.events with flags := s.events.flags ||| 0x40 } } r
        (closedRing s r (s.ring r).countFillTimeout) := by
  have pointer : ((timedOutAt s r).ring r).fillPointer = (s.ring r).fillPointer := by simp [RingState.countFillTimeout]
  have next : nextSector (timedOutAt s r) r = nextSector s r := by
    rw [nextSector, pointer]
    rfl
  rw [closedRing, next, timedOutAt_ring, timedOutAt, withRing_withRing]
  rfl

theorem shadowEnded_of_stays {s : State} {r : RingNo} {x : RingState}
    (h : x.lifecycle ≠ .stopping ∨ ∃ j, (s.record r j).state ≠ .free) : shadowEnded s r x = withRing s r x :=
  if_neg fun ⟨stopping, free⟩ => h.elim (· stopping) fun ⟨j, busy⟩ => busy (free j)

/-- Settles O31: a timer that is due closes what is open, and its sector or the ring's test decides the rest. -/
theorem fillTimerExpiryClosesTheMessage : Obligations.FillTimerExpiryClosesTheMessage := by
  rintro s t r _ rfl ht
  have closed : withRing (timedOutAt s r) r (closedRing (timedOutAt s r) r ((timedOutAt s r).ring r)) = t := by
    rw [closedRing_timedOutAt, ht]
    rfl
  have pointer : ((timedOutAt s r).ring r).fillPointer = (s.ring r).fillPointer := by simp [RingState.countFillTimeout]
  have state : ((timedOutAt s r).ring r).fillState = (s.ring r).fillState := by simp [RingState.countFillTimeout]
  have lifecycle : (closedRing (timedOutAt s r) r ((timedOutAt s r).ring r)).lifecycle = (s.ring r).lifecycle := by
    simp [closedRing, RingState.countFillTimeout]
  refine ⟨fun notDue => ?_, fun due opened => ?_, fun due shadow => ?_⟩
  · show Host.Outcome.next (s.expireFill r) = _
    rw [State.expireFill, if_neg notDue]
  · rw [exec_fillTimerExpiry_of_due due, closeCurrent_opened _ _ _ (state.trans opened), closed, pointer]
    refine ⟨fun some => ?_, fun none => ?_⟩
    · have busy : (s.record r (s.ring r).fillPointer).pending ≠ 0 := by omega
      rw [closedShort, if_neg (by exact busy)]
      rfl
    · rw [closedShort, if_pos (by exact none)]
      rfl
  · rw [exec_fillTimerExpiry_of_due due, closeCurrent_shadow _ _ _ (state.trans shadow)]
    refine ⟨fun stays => ?_, fun stopping free => ?_⟩
    · rw [shadowEnded_of_stays (s := timedOutAt s r) (stays.imp_left fun h => by rwa [lifecycle]), closed]
    · rw [shadowEnded_of_drained (s := timedOutAt s r) (lifecycle.trans stopping) free, closed]

/-! ### Ticks (R182) -/

/-- Settles O32: each part of the state counts the tick by its own function. -/
theorem tickCountsEveryTimer : Obligations.TickCountsEveryTimer := by
  intro s
  refine ⟨fun running => ?_, fun held => ?_⟩
  · have issue : s.headIssue.tick = (match s.headIssue with
        | .backoff n => .backoff (n - 1)
        | .waiting => .waiting
        | .inFlight => .inFlight) := by cases s.headIssue <;> rfl
    have reads : ReadEntry.tick = fun e : ReadEntry => { e with phase := match e.phase with
        | .queued b => .queued (b.map (· - 1))
        | .issued b => .issued b
        | .complete x n => .complete x (n - 1) } := by
      funext e
      rw [ReadEntry.tick]
      cases e.phase <;> rfl
    show execTick s = _
    rw [execTick, if_neg (Bool.eq_false_iff.1 running), State.tick, issue, reads]
    rfl
  · show execTick s = _
    rw [execTick, if_pos held]

end Sys2Proof.Whole
end

section
/-! The host link's reset in the terms of the statements: what an assertion of LRSTn leaves alone, and what it makes of
each ring whatever the order in which the rings are taken. -/

namespace Sys2Proof.Whole

open Sys2Proof.Machine Sys2Proof.Safety Sys2Proof.Laws

/-! ### One ring and the others -/

/-- The two states agree on a ring: its runtime record, its decode entry and its sectors. -/
structure SameRing (s t : State) (r : RingNo) : Prop where
  ring : t.ring r = s.ring r
  window : t.window r = s.window r
  record : ∀ j, t.record r j = s.record r j

theorem SameRing.refl (s : State) (r : RingNo) : SameRing s s r := ⟨rfl, rfl, fun _ => rfl⟩

theorem SameRing.trans {s t u : State} {r : RingNo} (h : SameRing s t r) (k : SameRing t u r) : SameRing s u r :=
  ⟨k.ring.trans h.ring, k.window.trans h.window, fun j => (k.record j).trans (h.record j)⟩

theorem sameRing_withRing (s : State) {r r' : RingNo} (x : RingState) (ne : r ≠ r') :
    SameRing s (withRing s r' x) r := ⟨by simp [ne], rfl, fun _ => rfl⟩

theorem sameRing_withRecord (s : State) {r r' : RingNo} (i : SectorNo) (x : SectorRecord) (ne : r ≠ r') :
    SameRing s (withRecord s r' i x) r := ⟨rfl, rfl, fun j => by simp [ne]⟩

theorem sameRing_announced (s : State) {r : RingNo} {n : Notice} (ne : r ≠ n.ring) : SameRing s (announced s n) r := by
  unfold announced
  split
  · split <;> exact ⟨(sameRing_withRing s _ ne).ring, rfl, fun _ => rfl⟩
  · exact .refl s r

theorem sameRing_turnedOff (s : State) {r r' : RingNo} (type : NoticeType) (ne : r ≠ r') :
    SameRing s (turnedOff s r' type) r := by
  have off : SameRing s { withRing s r' { s.ring r' with lifecycle := .off } with decode := s.decode.set r' none } r :=
    ⟨(sameRing_withRing s _ ne).ring, (getElem_set_fin _ _ _ _).trans (if_neg ne), fun _ => rfl⟩
  exact off.trans (sameRing_announced _ ne)

theorem sameRing_delivered (s : State) {r r' : RingNo} (i : SectorNo) (x : SectorRecord) (ne : r ≠ r') :
    SameRing s (delivered s r' i x) r := by
  have stored := (sameRing_withRecord s i { x with state := .ready, pending := 0 } ne).trans (sameRing_withRing _
    { s.ring r' with counters := { (s.ring r').counters with delivered := satSucc (s.ring r').counters.delivered } } ne)
  unfold delivered
  split
  · exact stored.trans (sameRing_announced _ ne)
  · exact stored

theorem sameRing_closedShort (s : State) {r r' : RingNo} (i : SectorNo) (x : SectorRecord) (ne : r ≠ r') :
    SameRing s (closedShort s r' i x) r := by
  unfold closedShort
  split
  · exact sameRing_delivered s i x ne
  · exact sameRing_withRecord s i _ ne

theorem sameRing_shadowEnded (s : State) {r r' : RingNo} (x : RingState) (ne : r ≠ r') :
    SameRing s (shadowEnded s r' x) r := by
  unfold shadowEnded
  split
  · exact (sameRing_withRing s x ne).trans (sameRing_turnedOff _ _ ne)
  · exact sameRing_withRing s x ne

/-- LRSTn leaves the other rings alone when it takes one (R51). -/
theorem sameRing_aborted (s : State) {r r' : RingNo} (ne : r ≠ r') : SameRing s (aborted s r') r := by
  unfold aborted
  split
  · split
    · exact .refl s r
    · exact (sameRing_withRing s _ ne).trans (sameRing_closedShort _ _ _ ne)
    · exact sameRing_shadowEnded s _ ne
  · exact .refl s r

/-! ### What a notice takes from its ring (R47) -/

/-- The runtime records differ in the message counters, and in the lost count and the gap flag where the notice queue
is enabled. -/
structure NoticeTaken (enabled : Bool) (x y : RingState) : Prop where
  lifecycle : y.lifecycle = x.lifecycle
  fillPointer : y.fillPointer = x.fillPointer
  fillState : y.fillState = x.fillState
  fillTimer : y.fillTimer = x.fillTimer
  nextSeq : y.nextSeq = x.nextSeq
  fillTimeouts : y.counters.fillTimeouts = x.counters.fillTimeouts
  disabled : enabled = false → y.lostCount = x.lostCount ∧ y.noticeGap = x.noticeGap

theorem NoticeTaken.refl (enabled : Bool) (x : RingState) : NoticeTaken enabled x x :=
  ⟨rfl, rfl, rfl, rfl, rfl, rfl, fun _ => ⟨rfl, rfl⟩⟩

theorem NoticeTaken.trans {enabled : Bool} {x y z : RingState} (h : NoticeTaken enabled x y)
    (k : NoticeTaken enabled y z) : NoticeTaken enabled x z where
  lifecycle := k.lifecycle.trans h.lifecycle
  fillPointer := k.fillPointer.trans h.fillPointer
  fillState := k.fillState.trans h.fillState
  fillTimer := k.fillTimer.trans h.fillTimer
  nextSeq := k.nextSeq.trans h.nextSeq
  fillTimeouts := k.fillTimeouts.trans h.fillTimeouts
  disabled off := ⟨(k.disabled off).1.trans (h.disabled off).1, (k.disabled off).2.trans (h.disabled off).2⟩

theorem noticeTaken_announced (s : State) (n : Notice) :
    NoticeTaken s.notices.enabled (s.ring n.ring) ((announced s n).ring n.ring) := by
  by_cases on : s.notices.enabled = true
  · have enabled : s.notices.enabled ≠ false := by simp [on]
    unfold announced
    rw [if_pos on]
    split <;> exact ⟨by simp [State.ring, withRing], by simp [State.ring, withRing], by simp [State.ring, withRing], by simp [State.ring, withRing], by simp [State.ring, withRing], by simp [State.ring, withRing], fun off => absurd off enabled⟩
  · rw [announced, if_neg on]
    exact .refl _ _

theorem announced_window (s : State) (n : Notice) (r : RingNo) : (announced s n).window r = s.window r := by
  unfold announced
  split
  · split <;> rfl
  · rfl

/-- The delivery of a message takes a notice from the ring, and stores the record (R17). -/
theorem delivered_takes (s : State) (r : RingNo) (i : SectorNo) (x : SectorRecord) :
    NoticeTaken s.notices.enabled (s.ring r) ((delivered s r i x).ring r) := by
  have counted : NoticeTaken s.notices.enabled (s.ring r) { s.ring r with
      counters := { (s.ring r).counters with delivered := satSucc (s.ring r).counters.delivered } } :=
    ⟨rfl, rfl, rfl, rfl, rfl, rfl, fun _ => ⟨rfl, rfl⟩⟩
  unfold delivered
  split
  · refine counted.trans ?_
    have taken := noticeTaken_announced (withRing (withRecord s r i { x with state := .ready, pending := 0 }) r
      { s.ring r with counters := { (s.ring r).counters with delivered := satSucc (s.ring r).counters.delivered } })
      { type := .message, ring := r, sector := i, seq := x.seq, length := x.length, flags := x.flags,
        gap := (s.ring r).noticeGap, lost := (s.ring r).lostCount, highWater := x.highWater, closeTime := x.closeTime }
    rwa [withRing_ring, if_pos rfl] at taken
  · rw [withRing_ring, if_pos rfl]
    exact counted

theorem delivered_window (s : State) (r r' : RingNo) (i : SectorNo) (x : SectorRecord) :
    (delivered s r i x).window r' = s.window r' := by
  unfold delivered
  split
  · exact announced_window _ _ _
  · rfl

theorem delivered_record (s : State) (r : RingNo) (i j : SectorNo) (x : SectorRecord) :
    (delivered s r i x).record r j = if j = i then { x with state := .ready, pending := 0 } else s.record r j := by
  unfold delivered
  split <;> simp

theorem turnedOff_takes (s : State) (r : RingNo) (type : NoticeType) :
    NoticeTaken s.notices.enabled { s.ring r with lifecycle := .off } ((turnedOff s r type).ring r) := by
  have taken := noticeTaken_announced
    { withRing s r { s.ring r with lifecycle := .off } with decode := s.decode.set r none }
    { type := type, ring := r, sector := (s.ring r).fillPointer, seq := (s.ring r).nextSeq, length := 0, flags := {},
      gap := (s.ring r).noticeGap, lost := (s.ring r).lostCount, highWater := 0, closeTime := s.timestamp }
  have off : ({ withRing s r { s.ring r with lifecycle := .off } with decode := s.decode.set r none } : State).ring r =
      { s.ring r with lifecycle := .off } := (withRing_ring _ _ _ _).trans (if_pos rfl)
  rwa [off] at taken

theorem turnedOff_window (s : State) (r : RingNo) (type : NoticeType) : (turnedOff s r type).window r = none :=
  (announced_window _ _ _).trans ((getElem_set_fin _ _ _ _).trans (if_pos rfl))

theorem turnedOff_record (s : State) (r r' : RingNo) (type : NoticeType) (j : SectorNo) :
    (turnedOff s r type).record r' j = s.record r' j := announced_record _ _ _ _

/-! ### What LRSTn makes of one ring (R51) -/

/-- The ring's shadow ends with every sector FREE while it is STOPPING. -/
def endsDrained (s : State) (r : RingNo) : Prop :=
  (s.ring r).lifecycle = .stopping ∧ (s.ring r).fillState = .shadow ∧ ∀ j, (s.record r j).state = .free

/-- The record that an open message leaves when it is aborted (R16). -/
def abortedRecord (s : State) (r : RingNo) : SectorRecord :=
  { s.record r (s.ring r).fillPointer with
    state := if (s.record r (s.ring r).fillPointer).pending = 0 then .ready else .closing
    flags := { (s.record r (s.ring r).fillPointer).flags with aborted := true }
    length := if (s.cfg r).modes &&& 3 = 0
      then (s.record r (s.ring r).fillPointer).highWater - 8
      else (s.record r (s.ring r).fillPointer).highWater
    closeTime := s.timestamp }

/-- What the assertion of LRSTn makes of a ring, in the order of the statement. -/
structure AbortedTo (s t : State) (r : RingNo) : Prop where
  untouched : (s.ring r).fillState = .idle ∨ ¬ serves s r → SameRing s t r
  drained : endsDrained s r → (t.ring r).lifecycle = .off ∧ t.window r = none
  kept : ¬ endsDrained s r → (t.ring r).lifecycle = (s.ring r).lifecycle ∧ t.window r = s.window r
  quiet : s.notices.enabled = false ∨ (s.ring r).fillState = .idle →
    (t.ring r).lostCount = (s.ring r).lostCount ∧ (t.ring r).noticeGap = (s.ring r).noticeGap
  ended : serves s r → (s.ring r).fillState ≠ .idle →
    (t.ring r).fillPointer = nextSector s r ∧ (t.ring r).fillState = .idle ∧ (t.ring r).fillTimer = none ∧
    (t.ring r).nextSeq = (s.ring r).nextSeq ∧ (t.ring r).counters.fillTimeouts = (s.ring r).counters.fillTimeouts ∧
    ∀ j, j ≠ (s.ring r).fillPointer ∨ (s.ring r).fillState = .shadow → t.record r j = s.record r j
  message : serves s r → (s.ring r).fillState = .opened → t.record r (s.ring r).fillPointer = abortedRecord s r

/-- The ring that serves no request, or has nothing open, is left as it is. -/
theorem abortedTo_refl {s : State} {r : RingNo} (h : (s.ring r).fillState = .idle ∨ ¬ serves s r) :
    AbortedTo s s r where
  untouched _ := .refl s r
  drained := fun ⟨stopping, shadow, _⟩ => by simp [serves, stopping, shadow] at h
  kept _ := ⟨rfl, rfl⟩
  quiet _ := ⟨rfl, rfl⟩
  ended serving busy := absurd h (by simp [serving, busy])
  message serving opened := absurd h (by simp [serving, opened])

/-- The record that an open message is closed with (R15, R16). -/
def cutRecord (s : State) (r : RingNo) : SectorRecord :=
  cutShort s r (s.ring r).fillPointer { (s.record r (s.ring r).fillPointer).flags with aborted := true }

/-- The state in which an open message has been aborted. -/
def messageAborted (s : State) (r : RingNo) : State :=
  closedShort (withRing s r (closedRing s r (s.ring r))) r (s.ring r).fillPointer (cutRecord s r)

theorem messageAborted_takes (s : State) (r : RingNo) :
    NoticeTaken s.notices.enabled (closedRing s r (s.ring r)) ((messageAborted s r).ring r) := by
  have closed : (withRing s r (closedRing s r (s.ring r))).ring r = closedRing s r (s.ring r) :=
    (withRing_ring _ _ _ _).trans (if_pos rfl)
  unfold messageAborted closedShort
  split
  · have taken := delivered_takes (withRing s r (closedRing s r (s.ring r))) r (s.ring r).fillPointer (cutRecord s r)
    rwa [closed] at taken
  · rw [withRecord_ring, closed]
    exact .refl _ _

theorem messageAborted_window (s : State) (r : RingNo) : (messageAborted s r).window r = s.window r := by
  unfold messageAborted closedShort
  split
  · exact delivered_window _ _ _ _ _
  · rfl

theorem messageAborted_record (s : State) (r : RingNo) (j : SectorNo) :
    (messageAborted s r).record r j = if j = (s.ring r).fillPointer then abortedRecord s r else s.record r j := by
  unfold messageAborted closedShort abortedRecord
  by_cases zero : (s.record r (s.ring r).fillPointer).pending = 0
  · rw [if_pos (by exact zero), delivered_record, if_pos zero]
    simp only [cutRecord, cutShort, ← zero]
    rfl
  · rw [if_neg (by exact zero), withRecord_record, if_neg zero]
    simp only [true_and]
    rfl

theorem abortedTo_opened {s : State} {r : RingNo} (serving : serves s r) (opened : (s.ring r).fillState = .opened) :
    AbortedTo s (messageAborted s r) r := by
  have taken := messageAborted_takes s r
  have record := messageAborted_record s r
  have notShadow : (s.ring r).fillState ≠ .shadow := by simp [opened]
  exact {
    untouched := fun h => absurd h (by simp [serving, opened])
    drained := fun ⟨_, shadow, _⟩ => absurd shadow notShadow
    kept := fun _ => ⟨taken.lifecycle, messageAborted_window s r⟩
    quiet := fun h => taken.disabled (h.resolve_right (by simp [opened]))
    ended := fun _ _ => ⟨taken.fillPointer, taken.fillState, taken.fillTimer, taken.nextSeq, taken.fillTimeouts,
      fun j other => (record j).trans (if_neg (other.resolve_right notShadow))⟩
    message := fun _ _ => (record _).trans (if_pos rfl) }

theorem abortedTo_shadow {s : State} {r : RingNo} (serving : serves s r) (shadow : (s.ring r).fillState = .shadow) :
    AbortedTo s (shadowEnded s r (closedRing s r (s.ring r))) r := by
  have notIdle : (s.ring r).fillState ≠ .idle := by simp [shadow]
  have notOpened : (s.ring r).fillState ≠ .opened := by simp [shadow]
  have closed : (withRing s r (closedRing s r (s.ring r))).ring r = closedRing s r (s.ring r) :=
    (withRing_ring _ _ _ _).trans (if_pos rfl)
  by_cases drained : endsDrained s r
  · obtain ⟨stopping, -, free⟩ := id drained
    rw [shadowEnded, if_pos ⟨stopping, free⟩]
    have taken := turnedOff_takes (withRing s r (closedRing s r (s.ring r))) r .ringOff
    rw [closed] at taken
    exact {
      untouched := fun h => absurd h (by simp [serving, shadow])
      drained := fun _ => ⟨taken.lifecycle, turnedOff_window _ _ _⟩
      kept := fun h => absurd drained h
      quiet := fun h => taken.disabled (h.resolve_right notIdle)
      ended := fun _ _ => ⟨taken.fillPointer, taken.fillState, taken.fillTimer, taken.nextSeq, taken.fillTimeouts,
        fun j _ => turnedOff_record _ _ _ _ j⟩
      message := fun _ opened => absurd opened notOpened }
  · rw [shadowEnded, if_neg fun ⟨stopping, free⟩ => drained ⟨stopping, shadow, free⟩]
    exact {
      untouched := fun h => absurd h (by simp [serving, shadow])
      drained := fun h => absurd h drained
      kept := fun _ => ⟨by rw [closed]; rfl, rfl⟩
      quiet := fun _ => by rw [closed]; exact ⟨rfl, rfl⟩
      ended := fun _ _ => by rw [closed]; exact ⟨rfl, rfl, rfl, rfl, rfl, fun _ _ => rfl⟩
      message := fun _ opened => absurd opened notOpened }

/-- LRSTn does to a ring what the statement says. -/
theorem abortedTo_aborted (s : State) (r : RingNo) : AbortedTo s (aborted s r) r := by
  unfold aborted
  split
  case isTrue serving =>
    cases fill : (s.ring r).fillState with
    | idle => exact abortedTo_refl (.inl fill)
    | opened => exact abortedTo_opened serving fill
    | shadow => exact abortedTo_shadow serving fill
  case isFalse idle => exact abortedTo_refl (.inr idle)

/-! ### What LRSTn leaves alone -/

/-- The parts of the state that no ring's close touches, but for notices that join. -/
structure Outside (s t : State) : Prop where
  same : SameOutside s t
  notices : NoticesGrown s.notices t.notices

theorem Outside.refl (s : State) : Outside s s := ⟨.refl s, .refl _⟩

theorem Outside.trans {s t u : State} (h : Outside s t) (k : Outside t u) : Outside s u :=
  ⟨h.same.trans k.same, h.notices.trans k.notices⟩

theorem outside_aborted (s : State) (r : RingNo) : Outside s (aborted s r) := by
  rw [← abortRing_eq, State.abortRing]
  split
  · exact ⟨.closeCurrent s r _, (RingSide.closeCurrent s r _).notices⟩
  · exact .refl s

theorem outside_abortedAll (order : List RingNo) : ∀ s : State, Outside s (order.foldl aborted s) := by
  induction order with
  | nil => exact .refl
  | cons r order ih => exact fun s => (outside_aborted s r).trans (ih _)

theorem sameRing_abortedAll {r : RingNo} (order : List RingNo) (absent : r ∉ order) :
    ∀ s : State, SameRing s (order.foldl aborted s) r := by
  induction order with
  | nil => exact fun s => .refl s r
  | cons r' order ih =>
    rw [List.mem_cons, not_or] at absent
    exact fun s => (sameRing_aborted s absent.1).trans (ih absent.2 _)

/-- What a ring becomes depends on the ring, and on parts of the state that the other rings leave alone. -/
theorem AbortedTo.congr {s s' t t' : State} {r : RingNo} (h : AbortedTo s' t r) (before : SameRing s s' r)
    (outside : Outside s s') (after : SameRing t t' r) : AbortedTo s t' r := by
  have ring := before.ring
  have serving : serves s' r ↔ serves s r := by rw [serves, serves, ring]
  have drains : endsDrained s' r ↔ endsDrained s r := by simp only [endsDrained, ring, before.record]
  have cfg : s'.cfg r = s.cfg r := by rw [State.cfg, State.cfg, outside.same.config]
  have enabled : s'.notices.enabled = s.notices.enabled := by
    obtain ⟨q, -, -, grown⟩ := outside.notices
    rw [grown]
  have next : nextSector s' r = nextSector s r := by rw [nextSector, nextSector, ring, cfg]
  have cut : abortedRecord s' r = abortedRecord s r := by
    simp only [abortedRecord, ring, before.record, cfg, outside.same.timestamp]
  exact {
    untouched := fun idle => before.trans ((h.untouched (by rwa [ring, serving])).trans after)
    drained := fun due => by
      rw [after.ring, after.window]
      exact h.drained (drains.2 due)
    kept := fun stays => by
      rw [after.ring, after.window, ← ring, ← before.window]
      exact h.kept (mt drains.1 stays)
    quiet := fun off => by
      rw [after.ring, ← ring]
      exact h.quiet (by rwa [enabled, ring])
    ended := fun serves busy => by
      have ended := h.ended (serving.2 serves) (by rwa [ring])
      simpa only [after.ring, after.record, ring, before.record, next] using ended
    message := fun serves opened => by
      rw [after.record, ← cut, ← ring]
      exact h.message (serving.2 serves) (by rwa [ring]) }

/-- Each ring is taken once, and finds itself as it was (R164). -/
theorem abortedTo_abortedAll {order : List RingNo} (nodup : order.Nodup) {r : RingNo} (mem : r ∈ order) (s : State) :
    AbortedTo s (order.foldl aborted s) r := by
  obtain ⟨before, after, rfl⟩ := List.append_of_mem mem
  rw [List.foldl_append, List.foldl_cons]
  rw [List.nodup_append] at nodup
  obtain ⟨-, nodup, apart⟩ := nodup
  refine (abortedTo_aborted (before.foldl aborted s) r).congr ?_ (outside_abortedAll before s) ?_
  · exact sameRing_abortedAll before (fun h => apart r h r (by simp) rfl) s
  · exact sameRing_abortedAll after (List.nodup_cons.1 nodup).1 _

/-- The free order takes each ring once (log entry 2). -/
theorem ringOrder_perm (choice : Nat) : (ringOrder choice).Perm (List.finRange 8) :=
  List.perm_insertionSort _ _

theorem abortRing_eq_aborted : State.abortRing = aborted := by
  funext s r
  exact abortRing_eq s r

theorem exec_lrstnAsserted_of_negated {s : State} (line : s.lrstn = false) :
    exec .lrstnAsserted s = .next { ((ringOrder s.orderChoice).foldl aborted (freed s fun _ => true)).post .linkReset with
      lrstn := true, orderChoice := s.orderChoice + 1 } := by
  show execLrstnAsserted s = _
  rw [execLrstnAsserted, if_neg (Bool.eq_false_iff.1 line), State.linkReset, abortRing_eq_aborted, freeReads_eq]

/-- Settles O33: each ring of the order is taken once, and finds itself and the rest of the state as they were. -/
theorem lrstnClosesAndFrees : Obligations.LrstnClosesAndFrees := by
  intro s
  refine ⟨fun line => ⟨?_, fun q => ?_, fun k => ?_⟩, fun line => ?_, fun line => ?_⟩
  · show execLrstnAsserted s = _
    rw [execLrstnAsserted, if_pos line]
  · show execWriteArrival q s = _
    rw [execWriteArrival, if_pos line]
  · show execReadArrival k s = _
    rw [execReadArrival, if_pos line]
  · refine ⟨ringOrder s.orderChoice, _, ringOrder_perm _, rfl, ?_⟩
    rw [exec_lrstnAsserted_of_negated line]
    generalize (ringOrder s.orderChoice).foldl aborted (freed s fun _ => true) = t
    rfl
  · have outside := outside_abortedAll (ringOrder s.orderChoice) (freed s fun _ => true)
    have rings : ∀ r, AbortedTo (freed s fun _ => true)
        ((ringOrder s.orderChoice).foldl aborted (freed s fun _ => true)) r := fun r =>
      abortedTo_abortedAll ((ringOrder_perm _).nodup_iff.2 (List.nodup_finRange 8))
        ((ringOrder_perm _).mem_iff.2 (List.mem_finRange r)) _
    have executed := exec_lrstnAsserted_of_negated line
    generalize (ringOrder s.orderChoice).foldl aborted (freed s fun _ => true) = t at outside rings executed
    obtain ⟨same, q, -, -, grown⟩ := outside
    refine ⟨_, executed, rfl, ?_, same.link, ?_, same.pwq, same.headIssue, same.config, same.port, same.timestamp,
      same.discardTime, ⟨q, grown⟩, fun r => ?_⟩
    · exact same.reads.trans (List.filter_eq_nil_iff.2 (by simp))
    · show (t.events.flags ||| EventFlag.linkReset.mask).getLsbD 7 = true
      simp [EventFlag.mask, EventFlag.bit]
    · obtain ⟨untouched, drained, kept, quiet, ended, message⟩ := rings r
      exact ⟨fun h => ⟨(untouched h).ring, (untouched h).window, (untouched h).record⟩,
        fun stopping shadow free => drained ⟨stopping, shadow, free⟩, kept, quiet, ended, message⟩

end Sys2Proof.Whole
end

section
/-! The commands of the COMMAND register in the terms of the statements: each takes its byte with its result, and the
reset lines beside them. -/

namespace Sys2Proof.Whole

open Sys2Proof.Machine Sys2Proof.Safety Sys2Proof.Laws

/-! ### The command's byte (R144, R175) -/

/-- The result of a command and the acknowledgement of its last byte. -/
theorem loadResult_pastByte (s : State) (code : Byte) (ring : BitVec 4) (v : Verdict) :
    (s.loadResult code ring v).pastByte commandLast = commandDone s code ring v := rfl

/-- A port that takes bytes runs the command. -/
theorem taken_of_portTakes {s : State} (takes : portTakes s) (a b : State) :
    (if s.portDeaf then (.next a : Host.Outcome State Fault Refusal) else .next b) = .next b := by
  obtain ⟨running, inWindow⟩ := takes
  exact if_neg (by simp [State.portDeaf, running, inWindow])

theorem namedRing_of_eq {ring : BitVec 4} {r : RingNo} (h : ring.toNat = r.val) : namedRing ring = some r := by
  rw [namedRing, dif_pos (h ▸ r.isLt)]
  exact congrArg some (Fin.ext h)

theorem namedRing_of_large {ring : BitVec 4} (h : 8 ≤ ring.toNat) : namedRing ring = none :=
  dif_neg (Nat.not_lt.2 h)

section
variable {s : State} (takes : portTakes s) (ring : BitVec 4)
include takes

theorem exec_enable : exec (.enable ring) s = .next ((s.commandEnable ring).pastByte commandLast) :=
  taken_of_portTakes takes _ _

theorem exec_stop : exec (.stop ring) s = .next ((s.commandStop ring).pastByte commandLast) :=
  taken_of_portTakes takes _ _

theorem exec_purge : exec (.purge ring) s = .next ((s.commandPurge ring).pastByte commandLast) :=
  taken_of_portTakes takes _ _

theorem exec_noticeEnable : exec (.noticeEnable ring) s = .next ((s.commandNoticeEnable ring).pastByte commandLast) :=
  taken_of_portTakes takes _ _

theorem exec_noticeDisable :
    exec (.noticeDisable ring) s = .next ((s.commandNoticeDisable ring).pastByte commandLast) :=
  taken_of_portTakes takes _ _

end

/-! ### Reset lines -/

/-- Settles O34: the three lines, by the values that the model's power-on gives each item. -/
theorem resetLinesSetTheirValues : Obligations.ResetLinesSetTheirValues := fun _ _ => ⟨rfl, rfl, rfl⟩

/-! ### ENABLE -/

theorem sectorSize_of_valid {c : RingConfig} (valid : validConfig c) : c.sectorSize = 256 * 2 ^ c.sizeCode.toNat :=
  sectorSize_eq valid.1

/-- Settles O35: the four tests pass, and the entry, the sectors and the record take their starting values. -/
theorem enableMakesTheRingActive : Obligations.EnableMakesTheRingActive := by
  intro s ring r takes named off valid apart
  have size := sectorSize_of_valid valid
  have entry : (s.cfg r).decodeEntry = {
      base := (s.cfg r).base
      sectorSize := 256 * 2 ^ (s.cfg r).sizeCode.toNat
      sectorCount := (s.cfg r).sectorCount.toNat
      producer := (s.cfg r).producer
      consumer := (s.cfg r).consumer
      monitors := (s.cfg r).monitors } := by rw [← size]; rfl
  have holds : (s.cfg r).holdsRead = fun e => decide ((s.cfg r).base.toNat ≤ e.request.address.toNat ∧
      e.request.address.toNat <
        (s.cfg r).base.toNat + 256 * 2 ^ (s.cfg r).sizeCode.toNat * (s.cfg r).sectorCount.toNat) := by
    funext e
    rw [RingConfig.holdsRead, RingConfig.windowBytes, size, Bool.decide_and]
  have activated : s.commandEnable ring = (s.activate r).loadResult 0x01 ring .done := by
    simp only [State.commandEnable, namedRing_of_eq named, off, (ringConfig_valid_iff _).2 valid,
      Bool.eq_false_iff.2 (mt (enableOverlaps_iff s r).1 apart), ne_eq, not_true_eq_false, if_false, Bool.not_true,
      Bool.false_eq_true]
  rw [exec_enable takes, activated, loadResult_pastByte, State.activate, freeReads_eq, entry, holds]
  rfl

/-! ### STOP -/

/-- A ring that becomes OFF from STOPPING does so as from any other lifecycle. -/
theorem turnedOff_withRing (s : State) (r : RingNo) (l : Lifecycle) (type : NoticeType) :
    turnedOff (withRing s r { s.ring r with lifecycle := l }) r type = turnedOff s r type := by
  simp [turnedOff]

/-- Settles O37: the ring becomes STOPPING and takes the test for OFF. -/
theorem stopMakesTheRingStopping : Obligations.StopMakesTheRingStopping := by
  intro s ring r takes named active
  have stopped : s.commandStop ring =
      ((withRing s r { s.ring r with lifecycle := .stopping }).stopTest r).loadResult 0x02 ring .done := by
    simp only [State.commandStop, namedRing_of_eq named, active, ne_eq, not_true_eq_false, if_false, setRing_eq]
  have test : (withRing s r { s.ring r with lifecycle := .stopping }).stopTest r =
      if (s.ring r).fillState = .idle ∧ ∀ j, (s.record r j).state = .free then turnedOff s r .ringOff
      else withRing s r { s.ring r with lifecycle := .stopping } := by
    simp only [State.stopTest, withRing_ring, if_true, allFree_iff, withRing_record, true_and, turnOff_eq,
      turnedOff_withRing]
  rw [exec_stop takes, stopped, loadResult_pastByte, test]
  refine ⟨fun busy => ?_, fun idle free => ?_⟩
  · rw [if_neg fun ⟨idle, free⟩ => busy.elim (· idle) fun ⟨j, taken⟩ => taken (free j)]
  · rw [if_pos ⟨idle, free⟩]

/-! ### Refusals (R145) -/

theorem not_valid_iff {c : RingConfig} : c.valid = false ↔ ¬ validConfig c := by
  rw [← ringConfig_valid_iff, Bool.not_eq_true]

theorem not_noticeValid_iff {n : NoticeUnit} : n.valid = false ↔ ¬ validNoticeConfig n := by
  rw [← noticeUnit_valid_iff, Bool.not_eq_true]

theorem commandEnable_refused (s : State) {ring : BitVec 4} {r : RingNo} (named : ring.toNat = r.val) :
    ((s.ring r).lifecycle ≠ .off → s.commandEnable ring = s.refuse 0x01 ring .state) ∧
    ((s.ring r).lifecycle = .off → ¬ validConfig (s.cfg r) → s.commandEnable ring = s.refuse 0x01 ring .badConfig) ∧
    ((s.ring r).lifecycle = .off → validConfig (s.cfg r) → configOverlaps s r →
      s.commandEnable ring = s.refuse 0x01 ring .overlap) := by
  simp only [State.commandEnable, namedRing_of_eq named]
  refine ⟨fun on => if_pos on, fun off bad => ?_, fun off valid meets => ?_⟩
  · rw [if_neg (not_not.2 off), if_pos (by rw [not_valid_iff.2 bad]; rfl)]
  · rw [if_neg (not_not.2 off), if_neg (by simp [(ringConfig_valid_iff _).2 valid]),
      if_pos ((enableOverlaps_iff s r).2 meets)]

theorem commandNoticeEnable_refused (s : State) (ring : BitVec 4) :
    (s.notices.enabled = true ∨ s.link.writeSlot = .occupied .noticeHead →
      s.commandNoticeEnable ring = s.refuse 0x12 ring .state) ∧
    (s.notices.enabled = false → s.link.writeSlot ≠ .occupied .noticeHead →
      (¬ validNoticeConfig s.notices → s.commandNoticeEnable ring = s.refuse 0x12 ring .badConfig) ∧
      (validNoticeConfig s.notices → noticeConfigOverlaps s →
        s.commandNoticeEnable ring = s.refuse 0x12 ring .overlap)) := by
  unfold State.commandNoticeEnable
  refine ⟨fun busy => if_pos busy, fun off quiet => ?_⟩
  have free : ¬ (s.notices.enabled = true ∨ s.link.writeSlot = .occupied .noticeHead) := by simp [off, quiet]
  rw [if_neg free]
  refine ⟨fun bad => if_pos (by rw [not_noticeValid_iff.2 bad]; rfl), fun valid meets => ?_⟩
  rw [if_neg (by simp [(noticeUnit_valid_iff _).2 valid]), if_pos ((noticeOverlaps_iff s).2 meets)]

/-- A code that is none of the eight is taken as the refusal NO_RING. -/
theorem takeCommand_of_unknown {s : State} {code : Byte} (ring : BitVec 4) (unknown : code ∉ commandCodes) :
    s.takeCommand code ring = s.refuse code ring .noRing := by
  simp only [commandCodes, List.mem_cons, List.not_mem_nil, or_false, not_or] at unknown
  obtain ⟨enable, stop, purge, flush, clear, noticeEnable, noticeDisable, reset⟩ := unknown
  simp only [State.takeCommand, enable, stop, purge, flush, clear, noticeEnable, noticeDisable, reset, if_false]

/-- Settles O36: each command asks for the reasons in their order, and a refusal loads the result alone. -/
theorem refusedCommandsChangeTheResultAlone : Obligations.RefusedCommandsChangeTheResultAlone := by
  intro s ring takes
  have unknownCommand : ∀ code, exec (.unknownCommand code ring) s =
      .next ((s.takeCommand code ring).pastByte commandLast) := fun code => taken_of_portTakes takes _ _
  rw [exec_enable takes, exec_stop takes, exec_purge takes, exec_noticeEnable takes, exec_noticeDisable takes]
  simp only [unknownCommand]
  refine ⟨fun large => ?noRing, fun r named => ⟨fun on => ?_, fun off bad => ?_, fun off valid meets => ?_,
    fun inactive => ?_, fun idle => ?_⟩, fun busy => ?_, fun off quiet => ⟨fun bad => ?_, fun valid meets => ?_⟩,
    fun off => ?_, fun code unknown => ?_⟩
  case noRing =>
    simp only [State.commandEnable, State.commandStop, State.commandPurge, namedRing_of_large large]
    exact ⟨rfl, rfl, rfl⟩
  · rw [(commandEnable_refused s named).1 on]
    rfl
  · rw [(commandEnable_refused s named).2.1 off bad]
    rfl
  · rw [(commandEnable_refused s named).2.2 off valid meets]
    rfl
  · simp only [State.commandStop, namedRing_of_eq named, if_pos inactive]
    rfl
  · rw [serves] at idle
    simp only [State.commandPurge, namedRing_of_eq named, if_neg idle]
    rfl
  · rw [(commandNoticeEnable_refused s ring).1 busy]
    rfl
  · rw [((commandNoticeEnable_refused s ring).2 off quiet).1 bad]
    rfl
  · rw [((commandNoticeEnable_refused s ring).2 off quiet).2 valid meets]
    rfl
  · rw [State.commandNoticeDisable, if_neg (by simp [off])]
    rfl
  · rw [takeCommand_of_unknown ring unknown]
    rfl

/-! ### PURGE -/

theorem purge_eq (x : SectorRecord) : x.purge = purgedRecord x := by
  unfold SectorRecord.purge purgedRecord
  split <;> rfl

theorem taggedWith_eq (r : RingNo) : (fun e : ReadEntry => e.taggedWith r) =
    fun e => decide (∃ i, e.tag = some (r, i)) := by
  funext e
  unfold ReadEntry.taggedWith
  cases e.tag with
  | none => simp
  | some tag =>
    obtain ⟨r', i⟩ := tag
    simp

/-- The ring and its reads at the entry of PURGING, in the terms of the statement. -/
theorem purgeRing_eq (s : State) (r : RingNo) : s.purgeRing r = freed
    { s with
      rings := s.rings.set r { s.ring r with lifecycle := .purging, fillState := .idle, fillTimer := none }
      sectors := s.sectors.set r (s.sectors[r].map purgedRecord) }
    (fun e => decide (∃ i, e.tag = some (r, i))) := by
  have purged : SectorRecord.purge = purgedRecord := by
    funext x
    exact purge_eq x
  rw [State.purgeRing, taggedWith_eq, purged, freeReads_eq]

theorem exec_purge_of_serves {s : State} {ring : BitVec 4} {r : RingNo} (takes : portTakes s)
    (named : ring.toNat = r.val) (serving : serves s r) :
    exec (.purge ring) s = .next (commandDone ((s.purgeRing r).purgeTest r).retire 0x03 ring .done) := by
  rw [serves] at serving
  rw [exec_purge takes, State.commandPurge]
  simp only [namedRing_of_eq named, if_pos serving]
  rfl

/-- A sector becomes PURGING where it is in use with queued writes, and FREE otherwise (R20). -/
theorem purgeRing_state (s : State) (r : RingNo) (i : SectorNo) :
    ((s.purgeRing r).record r i).state =
      if (s.record r i).state ≠ .free ∧ 0 < (s.record r i).pending then .purging else .free := by
  rw [purgeRing_record, if_pos rfl]
  obtain ⟨purged, free⟩ | ⟨purged, taken, queued⟩ := purge_cases (s.record r i)
  · rw [purged, if_neg fun ⟨taken, queued⟩ => free.elim taken (by omega)]
  · rw [purged, if_pos ⟨taken, queued⟩]

theorem purgeRing_lifecycle (s : State) (r : RingNo) : ((s.purgeRing r).ring r).lifecycle = .purging := by
  rw [purgeRing_ring, if_pos rfl]

/-- Settles O38: the PURGING ring takes its test, and the head the retirement that is due. -/
theorem purgeMakesTheRingPurging : Obligations.PurgeMakesTheRingPurging := by
  rintro s t ring r takes named serving ht
  rw [← purgeRing_eq] at ht
  rw [exec_purge_of_serves takes named serving, ← ht]
  have state : ∀ i, (t.record r i).state =
      if (s.record r i).state ≠ .free ∧ 0 < (s.record r i).pending then .purging else .free := fun i => ht ▸ purgeRing_state s r i
  have lifecycle : (t.ring r).lifecycle = .purging := ht ▸ purgeRing_lifecycle s r
  refine ⟨fun ⟨j, taken, queued⟩ => ?_, fun none => ?_⟩
  · have stays : t.purgeTest r = t := if_neg fun ⟨_, free⟩ => by
      have := (allFree_iff t r).1 free j
      rw [state, if_pos ⟨taken, queued⟩] at this
      cases this
    rw [stays]
    refine ⟨⟨_, retire_retired t, rfl⟩, fun e q i hq waits kind busy some => ⟨_, ?_, rfl⟩⟩
    refine retired_purgedAway (retire_retired t) (ht ▸ waits) (ht ▸ hq) kind ?_
    rw [state, if_pos ⟨busy, some⟩]
  · have free : ∀ j, (t.record r j).state = .free := fun j => by
      rw [state, if_neg fun ⟨taken, queued⟩ => by have := none j taken; omega]
    have off : t.purgeTest r = turnedOff t r .purged := by
      rw [State.purgeTest, if_pos ⟨lifecycle, (allFree_iff t r).2 free⟩, turnOff_eq]
    rw [off]
    exact ⟨_, retire_retired _, rfl⟩

/-! ### Commands of the whole part -/

theorem orphanIf_any (s : State) (x : ReadSlot) :
    (if s.reads.any (fun e => true && e.inFlight && decide (x = .occupied e.request)) then ReadSlot.orphaned else x) =
      if ∃ e ∈ s.reads, e.inFlight = true ∧ x = .occupied e.request then .orphaned else x := by
  simp only [List.any_eq_true, Bool.true_and, Bool.and_eq_true, decide_eq_true_eq]

/-- Settles O39: FLUSH_READS frees every entry, and CLEAR_COUNTERS sets each counter. -/
theorem flushAndClearKeepTheRest : Obligations.FlushAndClearKeepTheRest := by
  intro s ring takes
  refine ⟨(taken_of_portTakes takes _ _).trans ?_, (taken_of_portTakes takes _ _).trans rfl⟩
  rw [State.commandFlushReads, freeReads_eq, freed, orphanIf_any, orphanIf_any]
  simp only [Bool.not_true, List.filter_false]
  rfl

/-- Settles O40: neither command is refused, and each sets the enable. -/
theorem noticeCommandsSetTheEnable : Obligations.NoticeCommandsSetTheEnable := by
  intro s ring takes
  rw [exec_noticeEnable takes, exec_noticeDisable takes]
  refine ⟨fun off quiet valid apart => ?_, fun on => ?_⟩
  · rw [State.commandNoticeEnable, if_neg (by simp [off, quiet]), if_neg (by simp [(noticeUnit_valid_iff _).2 valid]),
      if_neg (mt (noticeOverlaps_iff s).1 apart)]
    rfl
  · rw [State.commandNoticeDisable, if_pos on]
    rfl

theorem writeSlot_orphan (x : WriteSlot) : x.orphan = if x = .free then .free else .orphaned := by
  cases x <;> rfl

theorem readSlot_orphan (x : ReadSlot) : x.orphan = if x = .free then .free else .orphaned := by
  cases x <;> rfl

/-- Settles O41: the model's reset of the datapath, with the slots by their state. -/
theorem datapathResetKeepsConfiguration : Obligations.DatapathResetKeepsConfiguration := by
  intro s ring takes
  refine (taken_of_portTakes takes _ _).trans ?_
  rw [State.commandDatapathReset, State.resetDatapath, writeSlot_orphan, readSlot_orphan, readSlot_orphan]
  rfl

end Sys2Proof.Whole
end

section
/-! The management port in the terms of the statements: transactions, a byte written at the offset, and the bytes of the
registers that act. -/

namespace Sys2Proof.Whole

open Sys2Proof.Machine Sys2Proof.Safety Sys2Proof.Laws

/-! ### Transactions (R175, R176) -/

/-- Two offset bytes as a number. -/
theorem toNat_offset (high low : Byte) : (high ++ low).toNat = 256 * high.toNat + low.toNat := by
  rw [BitVec.toNat_append, ← Nat.shiftLeft_add_eq_or_of_lt low.isLt, Nat.shiftLeft_eq]
  omega

theorem offset_eq_ofNat (high low : Byte) : high ++ low = BitVec.ofNat 16 (256 * high.toNat + low.toNat) := by
  rw [← toNat_offset, BitVec.ofNat_toNat]
  rfl

/-- Settles O42: each bus byte is taken as the transaction stands. -/
theorem transactionBytesMoveThePort : Obligations.TransactionBytesMoveThePort := by
  intro s
  refine ⟨fun read running => ?_, fun a read deaf => ?_, fun high low running awaited => ?_, rfl, rfl⟩
  · show Host.Outcome.next (s.addressByte s.port.address read) = _
    rw [State.addressByte, if_neg (by simp [running])]
  · show Host.Outcome.next (s.addressByte a read) = _
    rw [State.addressByte, if_pos deaf]
  · have taken : ¬ (s.porstn = true ∨ s.port.transaction ≠ .writeOffset) := by simp [running, awaited]
    refine ⟨fun inside => ?_, fun outside => ?_, ?_⟩
    · show Host.Outcome.next (s.offsetBytes high (some low)) = _
      simp only [State.offsetBytes, if_neg taken, State.completeOffset]
      rw [if_pos (by rw [toNat_offset]; omega), offset_eq_ofNat]
    · show Host.Outcome.next (s.offsetBytes high (some low)) = _
      simp only [State.offsetBytes, if_neg taken, State.completeOffset]
      rw [if_neg (by rw [toNat_offset]; omega)]
    · show Host.Outcome.next (s.offsetBytes high none) = _
      simp only [State.offsetBytes, if_neg taken]

theorem portDeaf_iff (s : State) : s.portDeaf = true ↔ s.porstn = true ∨ s.port.outOfWindow = true := by
  simp [State.portDeaf]

theorem deaf_of_portDeaf {s : State} (deaf : s.portDeaf = true) (t : State) :
    (if s.portDeaf then (.next s.nack : Host.Outcome State Fault Refusal) else .next t) = .next s.nack := if_pos deaf

theorem exec_registerWrite_of_deaf {s : State} (deaf : s.portDeaf = true ∨ s.port.transaction ≠ .writeData) (b : Byte) :
    exec (.registerWrite b) s = .next s.nack := by
  show Host.Outcome.next (s.dataByte b) = _
  rw [State.dataByte, if_pos (by simpa using deaf)]

/-- Settles O48: each command asks the port first. -/
theorem deafPortTakesNoByte : Obligations.DeafPortTakesNoByte := by
  intro s
  refine ⟨fun deaf c command => ?_, fun other b => exec_registerWrite_of_deaf (.inr other) b, fun other high low => ?_,
    fun other acknowledged => ?_, fun held acknowledged => ?_, fun running outside acknowledged => ?_⟩
  · have deaf := (portDeaf_iff s).2 deaf
    obtain ⟨ring, command⟩ | ⟨half, b, rfl | rfl⟩ | ⟨b, rfl | rfl⟩ := command
    · obtain rfl | rfl | rfl | rfl | rfl | rfl | rfl | rfl | ⟨code, rfl⟩ := command <;>
        exact deaf_of_portDeaf deaf _
    · exact deaf_of_portDeaf deaf _
    · exact deaf_of_portDeaf deaf _
    · exact deaf_of_portDeaf deaf _
    · exact exec_registerWrite_of_deaf (.inl deaf) b
  · show Host.Outcome.next (s.offsetBytes high low) = _
    simp only [State.offsetBytes, if_pos other]
    rfl
  · show Host.Outcome.next (s.readByte acknowledged) = _
    rw [State.readByte, if_pos (by simpa using other)]
    rfl
  · show execStatusByteRead acknowledged s = _
    rw [execStatusByteRead, if_pos held]
    rfl
  · show execStatusByteRead acknowledged s = _
    rw [execStatusByteRead, if_neg (Bool.eq_false_iff.1 running), if_pos outside]
    rfl

/-! ### The registers that act (R168, R169, R179) -/

theorem exec_eventRegisterWrite {s : State} (takes : portTakes s) (half : RegisterHalf) (b : Byte) :
    exec (.eventRegisterWrite half b) s = .next ((s.clearFlags half b).pastByte (eventOffset half)) :=
  taken_of_portTakes takes _ _

theorem exec_maskWrite {s : State} (takes : portTakes s) (half : RegisterHalf) (b : Byte) :
    exec (.maskWrite half b) s = .next ((s.writeMask half b).pastByte (maskOffset half)) :=
  taken_of_portTakes takes _ _

theorem exec_inspectionSelect {s : State} (takes : portTakes s) (b : Byte) :
    exec (.inspectionSelect b) s = .next ((s.inspect b).pastByte 0x0090) :=
  taken_of_portTakes takes _ _

/-- Settles O46: the selection byte names the ring in its high bits and the sector in its low ones. -/
theorem inspectionCopiesTheRecord : Obligations.InspectionCopiesTheRecord := by
  intro s r i takes
  have value : (BitVec.ofNat 8 (32 * r.val + i.val)).toNat = 32 * r.val + i.val := by
    rw [BitVec.toNat_ofNat]
    omega
  have ring : Fin.ofNat 8 ((BitVec.ofNat 8 (32 * r.val + i.val)).toNat / 32) = r := by
    rw [value]
    apply Fin.ext
    show (32 * r.val + i.val) / 32 % 8 = r.val
    omega
  have sector : Fin.ofNat 32 (BitVec.ofNat 8 (32 * r.val + i.val)).toNat = i := by
    rw [value]
    apply Fin.ext
    show (32 * r.val + i.val) % 32 = i.val
    omega
  rw [exec_inspectionSelect takes, State.inspect, ring, sector]
  rfl

/-- A flag is cleared where its bit of the written byte is one (R168). -/
theorem clearFlags_bit (s : State) (half : RegisterHalf) (b : Byte) (i : Nat) (h : i < 9) :
    (s.clearFlags half b).events.flags.getLsbD i = (s.events.flags.getLsbD i &&
      !(match half with
        | .low => decide (i < 8) && b.getLsbD i
        | .high => decide (i = 8) && b.getLsbD 0)) := by
  obtain below | rfl : i < 8 ∨ i = 8 := by omega
  · have : i ≠ 8 := by omega
    cases half <;> simp [State.clearFlags, *]
  · cases half <;> simp [State.clearFlags]

theorem highBit_mask (i : Nat) (h : i < 9) : (256#9)[i] = decide (i = 8) := by
  have all : ∀ i : Fin 9, (256#9).getLsbD i.val = decide (i.val = 8) := by decide
  exact all ⟨i, h⟩

theorem lowBits_mask (i : Nat) (h : i < 9) : (255#9)[i] = decide (i < 8) := by
  have all : ∀ i : Fin 9, (255#9).getLsbD i.val = decide (i.val < 8) := by decide
  exact all ⟨i, h⟩

/-- The written half of the mask register is replaced (R169). -/
theorem writeMask_bit (s : State) (half : RegisterHalf) (b : Byte) (i : Nat) (h : i < 9) :
    (s.writeMask half b).events.masks.getLsbD i =
      match half with
      | .low => if i < 8 then b.getLsbD i else s.events.masks.getLsbD i
      | .high => if i = 8 then b.getLsbD 0 else s.events.masks.getLsbD i := by
  obtain below | rfl : i < 8 ∨ i = 8 := by omega
  · have : i ≠ 8 := by omega
    cases half <;> simp [State.writeMask, highBit_mask, lowBits_mask, *]
  · cases half <;> simp [State.writeMask, highBit_mask, lowBits_mask]

theorem alrt_iff (s : State) :
    s.alrt = true ↔ ∃ i, i < 9 ∧ s.events.flags.getLsbD i = true ∧ s.events.masks.getLsbD i = false := by
  have bits : s.alrt = true ↔ ∃ i, (s.events.flags &&& ~~~s.events.masks).getLsbD i = true := by
    rw [State.alrt, decide_eq_true_eq, ne_eq, ← not_iff_not, not_not, not_exists]
    constructor
    · intro zero i
      simp [zero]
    · intro none
      exact BitVec.eq_of_getLsbD_eq fun i _ => by simpa using none i
  rw [bits]
  refine exists_congr fun i => ?_
  by_cases inside : i < 9
  · simp [inside]
  · simp [inside]

theorem ntfy_iff (s : State) : s.ntfy = true ↔ s.notices.enabled = true ∧ s.notices.wd ≠ s.notices.r := by
  simp [State.ntfy]

/-- Settles O45: each half of a register acts on its own bits. -/
theorem eventAndMaskWritesAct : Obligations.EventAndMaskWritesAct := by
  intro s b takes
  refine ⟨⟨_, exec_eventRegisterWrite takes .low b, rfl, clearFlags_bit s .low b⟩,
    ⟨_, exec_eventRegisterWrite takes .high b, rfl, clearFlags_bit s .high b⟩,
    ⟨_, exec_maskWrite takes .low b, rfl, writeMask_bit s .low b⟩,
    ⟨_, exec_maskWrite takes .high b, rfl, writeMask_bit s .high b⟩, alrt_iff s, ntfy_iff s⟩

end Sys2Proof.Whole
end

section
/-! The register window in the terms of the statements: bytes written and read at the offset, row by row. -/

namespace Sys2Proof.Whole

open Sys2Proof.Machine Sys2Proof.Safety Sys2Proof.Laws

/-! ### The offset past a byte (R176) -/

theorem advanceOffset_eq {o : BitVec 16} (h : o.toNat ≤ 0x03FF) :
    advanceOffset o = if o = 0x03FF then 0 else o + 1 := by
  have mask : (0x03FF : BitVec 16).toNat = 2 ^ 10 - 1 := rfl
  have wraps : (advanceOffset o).toNat = (o.toNat + 1) % 1024 := by
    rw [advanceOffset, BitVec.toNat_and, mask, Nat.and_two_pow_sub_one_eq_mod, BitVec.toNat_add]
    simp
  apply BitVec.eq_of_toNat_eq
  rw [wraps]
  split
  · next last => simp [last]
  · next inside =>
    have : o.toNat ≠ 0x03FF := fun e => inside (BitVec.eq_of_toNat_eq e)
    rw [BitVec.toNat_add]
    simp
    omega

/-- The byte taken at the offset moves the port past it. -/
theorem pastByte_eq {t : State} {o : BitVec 16} (same : t.port.offset = o) (h : o.toNat ≤ 0x03FF) :
    t.pastByte o = tookByte t := by
  subst same
  rw [State.pastByte, if_pos rfl, advanceOffset_eq h]
  rfl

theorem exec_registerWrite {s : State} (takes : portTakes s) (writing : s.port.transaction = .writeData) (b : Byte) :
    exec (.registerWrite b) s = .next ((s.writeByteAt s.port.offset b).pastByte s.port.offset) := by
  have hears : ¬ (s.portDeaf || decide (s.port.transaction ≠ .writeData)) = true := by
    obtain ⟨running, inWindow⟩ := takes
    simp [State.portDeaf, writing, running, inWindow]
  show Host.Outcome.next (s.dataByte b) = _
  rw [State.dataByte, if_neg hears]

theorem exec_registerWrite_eq {s t : State} (takes : portTakes s) (writing : s.port.transaction = .writeData) {b : Byte}
    (h : s.port.offset.toNat ≤ 0x03FF) (written : s.writeByteAt s.port.offset b = t)
    (same : t.port.offset = s.port.offset) : exec (.registerWrite b) s = .next (tookByte t) := by
  rw [exec_registerWrite takes writing, written, pastByte_eq same h]

/-! ### A byte written to a field (R177) -/

/-- The fields that a written byte is taken by at once, as the event, mask or select byte it is. -/
def actsAtOnce (f : Field) : Prop :=
  f = .eventLow ∨ f = .eventHigh ∨ f = .maskLow ∨ f = .maskHigh ∨ f = .inspectSelect

theorem writeField_locked {s : State} {f : Field} (locked : s.locked f = true) (k : Nat) (b : Byte) :
    s.writeField f k b = { s with port := { s.port with configLocked := true } } := if_pos locked

/-- A field that is neither locked nor acts is ignored, stored at once or staged. -/
theorem writeField_of_unlocked {s : State} {f : Field} (unlocked : s.locked f = false) (other : ¬ actsAtOnce f) (k : Nat)
    (b : Byte) : s.writeField f k b =
      if f.isStored then if f.size = 1 then s.store f (b.setWidth 64) else s.stage f k b else s := by
  simp only [actsAtOnce, not_or] at other
  obtain ⟨eventLow, eventHigh, maskLow, maskHigh, select⟩ := other
  unfold State.writeField
  rw [if_neg (Bool.eq_false_iff.1 unlocked)]
  split <;> first | contradiction | rfl

/-- The standing value of a row's field is the row's value, but for COMMAND (R177). -/
theorem standing_of_row {s : State} {x : WindowRow} (row : isRow s x) (other : x.field ≠ .command) :
    s.standing x.field = BitVec.ofNat 64 x.value := by
  rw [State.standing, if_neg other, (row_field row).value]

theorem fieldWith_offset (s : State) (f : Field) (v : BitVec 64) : (fieldWith s f v).port.offset = s.port.offset := by
  unfold fieldWith
  split <;> first | rfl | (split <;> rfl)

section
variable {s : State} {x : WindowRow} (row : isRow s x)
include row

theorem writeByteAt_of_row {o : BitVec 16} (holds : x.holds o.toNat) (b : Byte) :
    s.writeByteAt o b = s.writeField x.field (o.toNat - x.offset) b := by
  simp only [State.writeByteAt, fieldAt_row row holds, (row_field row).start]

/-- A byte of a row that is read-only is ignored. -/
theorem writeField_readOnly (readOnly : x.access = .readOnly) (k : Nat) (b : Byte) : s.writeField x.field k b = s := by
  obtain ⟨unlocked, unstored, eventLow, eventHigh, maskLow, maskHigh, select⟩ := (row_access row).ignored readOnly
  rw [writeField_of_unlocked unlocked (by simp [actsAtOnce, *]), if_neg (by simp [unstored])]

theorem writeField_open (isOpen : x.isOpen s) (maskLow : x.field ≠ .maskLow) (maskHigh : x.field ≠ .maskHigh)
    (select : x.field ≠ .inspectSelect) (k : Nat) (b : Byte) : s.writeField x.field k b =
      if x.bytes = 1 then s.store x.field (b.setWidth 64) else s.stage x.field k b := by
  obtain ⟨unlocked, stored, eventLow, eventHigh⟩ := (row_access row).stored isOpen maskLow maskHigh select
  rw [writeField_of_unlocked unlocked (by simp [actsAtOnce, *]), if_pos stored, (row_field row).size]

/-- A row of several bytes is none of those that act. -/
theorem not_acts_of_long (long : 1 < x.bytes) : ¬ actsAtOnce x.field := fun acts => by
  have := ((row_access row).named acts).2
  omega

end

/-- The byte staged for a field's place, over those staged before (R177). -/
theorem staged_over (bytes : Vector (Option Byte) 8) (b : Byte) (k : Nat) (j : Fin 8) (v : Byte) :
    ((bytes.setIfInBounds k (some b))[j]).getD v = if j.val = k then b else (bytes[j]).getD v := by
  by_cases here : j.val = k
  · subst here
    simp
  · have : k ≠ j.val := fun e => here e.symm
    simp [here, this]

/-- A byte that names a register of one byte is a byte of that register (R168, R169, R179). -/
theorem registerWrite_acts {s : State} {x : WindowRow} (row : isRow s x) (takes : portTakes s)
    (writing : s.port.transaction = .writeData) (holds : x.holds s.port.offset.toNat) (b : Byte) :
    (x.field = .eventLow → exec (.registerWrite b) s = exec (.eventRegisterWrite .low b) s) ∧
    (x.field = .eventHigh → exec (.registerWrite b) s = exec (.eventRegisterWrite .high b) s) ∧
    (x.field = .maskLow → exec (.registerWrite b) s = exec (.maskWrite .low b) s) ∧
    (x.field = .maskHigh → exec (.registerWrite b) s = exec (.maskWrite .high b) s) ∧
    (x.field = .inspectSelect → exec (.registerWrite b) s = exec (.inspectionSelect b) s) := by
  rw [exec_registerWrite takes writing, writeByteAt_of_row row holds, exec_eventRegisterWrite takes,
    exec_eventRegisterWrite takes, exec_maskWrite takes, exec_maskWrite takes, exec_inspectionSelect takes]
  have start := (row_field row).start
  have named := (row_access row).named
  have offset : ∀ f, x.field = f → actsAtOnce f → s.locked f = false ∧ s.port.offset = BitVec.ofNat 16 f.start := by
    rintro f rfl acts
    obtain ⟨unlocked, one⟩ := named acts
    obtain ⟨above, below⟩ := holds
    refine ⟨unlocked, BitVec.eq_of_toNat_eq ?_⟩
    rw [BitVec.toNat_ofNat, start]
    have := s.port.offset.isLt
    omega
  refine ⟨fun field => ?_, fun field => ?_, fun field => ?_, fun field => ?_, fun field => ?_⟩
  all_goals
    obtain ⟨unlocked, at0⟩ := offset _ field (by simp [actsAtOnce])
    rw [field, State.writeField, if_neg (Bool.eq_false_iff.1 unlocked), at0]
    rfl

/-- Settles O43: the byte's row decides by its access, its field and its bytes. -/
theorem registerWriteStagesAndStores : Obligations.RegisterWriteStagesAndStores := by
  rintro s b _ writing takes rfl inside
  have written : ∀ t, s.writeByteAt s.port.offset b = t → t.port.offset = s.port.offset →
      exec (.registerWrite b) s = .next (tookByte t) := fun t => exec_registerWrite_eq takes writing inside
  refine ⟨fun none => ?_, fun x k row holds hk => ?_⟩
  · refine written s ?_ rfl
    simp only [State.writeByteAt, fieldAt_none inside none]
  have byte : s.writeByteAt s.port.offset b = s.writeField x.field k b := by rw [hk, writeByteAt_of_row row holds]
  rw [byte] at written
  have unnamed : 1 < x.bytes → x.field ≠ .maskLow ∧ x.field ≠ .maskHigh ∧ x.field ≠ .inspectSelect := fun long => by
    have acts := not_acts_of_long row long
    simp only [actsAtOnce, not_or] at acts
    exact acts.2.2
  obtain ⟨eventLow, eventHigh, maskLow, maskHigh, select⟩ := registerWrite_acts row takes writing holds b
  refine ⟨fun readOnly => ?readOnly, fun locked => ?locked, eventLow, eventHigh, maskLow, maskHigh, select,
    fun isOpen one maskLow maskHigh select => ?single,
    fun bytes isOpen staged => ⟨fun more => ?stage, fun last long notCommand => ?store⟩⟩
  case readOnly => exact written s (writeField_readOnly row readOnly k b) rfl
  case locked => exact written _ (writeField_locked ((row_access row).locked.1 locked) k b) rfl
  case single =>
    have notCommand : x.field ≠ .command := fun command => by
      have := (row_field row).size
      rw [command, one] at this
      cases this
    refine written _ ?_ (fieldWith_offset _ _ _)
    rw [writeField_open row isOpen maskLow maskHigh select, if_pos one, store_eq _ _ _ notCommand]
  case stage =>
    obtain ⟨maskLow, maskHigh, select⟩ := unnamed (by omega)
    refine written _ ?_ rfl
    rw [writeField_open row isOpen maskLow maskHigh select, if_neg (by omega), State.stage, stagedBytes_eq staged,
      (row_field row).size, if_neg (by omega)]
  case store =>
    obtain ⟨maskLow, maskHigh, select⟩ := unnamed long
    refine ⟨mergeBytes (bytes.setIfInBounds k (some b)) (BitVec.ofNat 64 x.value), fun j inField => ?_, ?_⟩
    · rw [merge_bytes, staged_over]
    · refine written _ ?_ (fieldWith_offset _ _ _)
      rw [writeField_open row isOpen maskLow maskHigh select, if_neg (by omega), State.stage, stagedBytes_eq staged,
        (row_field row).size, if_pos last, standing_of_row row notCommand, store_eq _ _ _ notCommand]

/-! ### The byte that takes a command (R144) -/

/-- The state with the staging register empty. -/
def unstaged (s : State) : State := { s with port := { s.port with staging := none } }

theorem unstaged_eq (s : State) : unstaged s = beside 0 (fun p => { p with staging := none }) s := by
  simp [unstaged, beside]

/-- The result of a command empties the staging register, whatever it held. -/
theorem loadResult_unstaged (s : State) (code : Byte) (ring : BitVec 4) (v : Verdict) :
    (unstaged s).loadResult code ring v = s.loadResult code ring v := rfl

theorem stopTest_unstaged (s : State) (r : RingNo) : (unstaged s).stopTest r = unstaged (s.stopTest r) := by
  rw [unstaged_eq, unstaged_eq, stopTest_beside]

theorem purgeTest_unstaged (s : State) (r : RingNo) : (unstaged s).purgeTest r = unstaged (s.purgeTest r) := by
  rw [unstaged_eq, unstaged_eq, purgeTest_beside]

theorem retire_unstaged (s : State) : (unstaged s).retire = unstaged s.retire := by
  rw [unstaged_eq, unstaged_eq, retire_beside]

theorem commandStop_unstaged (s : State) (ring : BitVec 4) : (unstaged s).commandStop ring = s.commandStop ring := by
  unfold State.commandStop
  cases namedRing ring with
  | none => rfl
  | some r =>
    have stopped : ((unstaged s).setRing r { (unstaged s).ring r with lifecycle := .stopping }).stopTest r =
        unstaged ((s.setRing r { s.ring r with lifecycle := .stopping }).stopTest r) :=
      stopTest_unstaged (s.setRing r { s.ring r with lifecycle := .stopping }) r
    simp only [stopped, loadResult_unstaged]
    rfl

theorem commandPurge_unstaged (s : State) (ring : BitVec 4) : (unstaged s).commandPurge ring = s.commandPurge ring := by
  unfold State.commandPurge
  cases namedRing ring with
  | none => rfl
  | some r =>
    have entered : (unstaged s).purgeRing r = unstaged (s.purgeRing r) := rfl
    simp only [entered, purgeTest_unstaged, retire_unstaged, loadResult_unstaged]
    rfl

/-- The taking of a command does not read the staging register, which its result empties. -/
theorem takeCommand_unstaged (s : State) (code : Byte) (ring : BitVec 4) :
    (unstaged s).takeCommand code ring = s.takeCommand code ring := by
  unfold State.takeCommand
  rw [commandStop_unstaged, commandPurge_unstaged]
  rfl

/-- The low four bits of a value are those of its lowest byte. -/
theorem setWidth_lowest (v : BitVec 64) : v.setWidth 4 = (v.extractLsb' 0 8).setWidth 4 := by
  ext i hi
  simp
  omega

/-- The last byte of COMMAND takes the command with the ring number staged, or the one left (R144, R186). -/
theorem stage_command {s : State} {bytes : Vector (Option Byte) 8} (staged : stagedFor s .command bytes) (b : Byte) :
    s.stage .command 1 b = s.takeCommand b ((bytes[0]).elim s.port.commandRing fun low => low.setWidth 4) := by
  have last : byteOf (mergeBytes (bytes.setIfInBounds 1 (some b)) (s.standing .command)) 1 = b :=
    (merge_bytes _ _ 1).trans ((staged_over bytes b 1 1 _).trans (if_pos rfl))
  have first : (mergeBytes (bytes.setIfInBounds 1 (some b)) (s.standing .command)).extractLsb' 0 8 =
      (bytes[0]).getD ((s.standing .command).extractLsb' 0 8) :=
    (merge_bytes _ _ 0).trans ((staged_over bytes b 1 0 _).trans (if_neg (by decide)))
  have left : ((s.standing .command).extractLsb' 0 8).setWidth 4 = s.port.commandRing := by
    rw [← setWidth_lowest, State.standing, if_pos rfl, BitVec.setWidth_setWidth_of_le _ (by decide), BitVec.setWidth_eq]
  rw [State.stage, stagedBytes_eq staged, if_pos (by decide)]
  show (unstaged s).takeCommand (byteOf _ 1) (BitVec.setWidth 4 _) = _
  rw [takeCommand_unstaged, last, setWidth_lowest, first]
  cases bytes[0] with
  | none =>
    rw [Option.getD_none, left]
    rfl
  | some low => rfl

theorem exec_command_of_code {s : State} {b : Byte} {ring : BitVec 4} {c : Instr} (takes : portTakes s)
    (h : (b = 0x01 ∧ c = .enable ring) ∨ (b = 0x02 ∧ c = .stop ring) ∨ (b = 0x03 ∧ c = .purge ring) ∨
      (b = 0x10 ∧ c = .flushReads ring) ∨ (b = 0x11 ∧ c = .clearCounters ring) ∨
      (b = 0x12 ∧ c = .noticeEnable ring) ∨ (b = 0x13 ∧ c = .noticeDisable ring) ∨
      (b = 0x1F ∧ c = .datapathReset ring) ∨ (b ∉ commandCodes ∧ c = .unknownCommand b ring)) :
    exec c s = .next ((s.takeCommand b ring).pastByte commandLast) := by
  obtain ⟨rfl, rfl⟩ | ⟨rfl, rfl⟩ | ⟨rfl, rfl⟩ | ⟨rfl, rfl⟩ | ⟨rfl, rfl⟩ | ⟨rfl, rfl⟩ | ⟨rfl, rfl⟩ | ⟨rfl, rfl⟩ |
    ⟨-, rfl⟩ := h <;>
    exact taken_of_portTakes takes _ _

/-- Settles O44: COMMAND's last byte completes the write that takes the command. -/
theorem commandByteTakesTheCommand : Obligations.CommandByteTakesTheCommand := by
  rintro s b ring c takes writing offset ⟨bytes, staged, hring⟩ code
  have number : ring = (bytes[0]).elim s.port.commandRing fun low => low.setWidth 4 := by
    rw [hring]
    cases bytes[0] <;> rfl
  have field : fieldAt s.port.offset.toNat = some .command := by
    rw [offset]
    decide
  have written : s.writeByteAt s.port.offset b = s.stage .command 1 b := by
    rw [State.writeByteAt, field, offset]
    rfl
  rw [exec_registerWrite takes writing, written, stage_command staged, ← number, exec_command_of_code takes code, offset]
  rfl

/-! ### Bytes read (R178) -/

theorem byteOf_lowest (n : Nat) : byteOf (BitVec.ofNat 64 n) 0 = BitVec.ofNat 8 n := by
  apply BitVec.eq_of_toNat_eq
  simp [byteOf]

theorem fieldByte_lowest (s : State) (f : Field) : s.fieldByte f 0 = byteOf (s.fieldValue f) 0 := by
  unfold State.fieldByte
  split <;> simp

theorem fieldByte_held {s : State} {f : Field} {v : BitVec 64} (held : s.port.holding = some { field := f, value := v })
    {k : Nat} (above : k ≠ 0) : s.fieldByte f k = byteOf v k := by
  simp only [State.fieldByte, held, above, ne_eq, not_false_eq_true, and_self, if_true]

theorem fieldByte_live {s : State} {f : Field} (live : ∀ v, s.port.holding ≠ some { field := f, value := v }) (k : Nat) :
    s.fieldByte f k = byteOf (s.fieldValue f) k := by
  unfold State.fieldByte
  cases held : s.port.holding with
  | none => rfl
  | some h =>
    refine if_neg fun ⟨same, _⟩ => live h.value ?_
    rw [held, ← same]

theorem heldAfter_single {s : State} {f : Field} (single : f.size = 1) (k : Nat) : s.heldAfter f k = none := if_pos single

theorem heldAfter_lowest {s : State} {f : Field} (long : f.size ≠ 1) :
    s.heldAfter f 0 = some { field := f, value := s.fieldValue f } := by
  rw [State.heldAfter, if_neg long, if_pos rfl]

theorem heldAfter_held {s : State} {f : Field} {v : BitVec 64} (held : s.port.holding = some { field := f, value := v })
    (long : f.size ≠ 1) {k : Nat} (above : k ≠ 0) : s.heldAfter f k = some { field := f, value := v } := by
  simp only [State.heldAfter, if_neg long, if_neg above, held, if_true]

theorem heldAfter_live {s : State} {f : Field} (live : ∀ v, s.port.holding ≠ some { field := f, value := v })
    (long : f.size ≠ 1) {k : Nat} (above : k ≠ 0) : s.heldAfter f k = none := by
  rw [State.heldAfter, if_neg long, if_neg above]
  cases held : s.port.holding with
  | none => rfl
  | some h => exact if_neg fun same => live h.value (by rw [held, ← same])

/-- The state in which a byte has been sent and the read has moved on. -/
def sentByte (s : State) (acknowledged : Bool) (b : Byte) (h : Option Holding) (locked : Bool) : State :=
  { s with port := { s.port with
      transaction := if acknowledged then .reading else .idle
      offset := if s.port.offset = 0x03FF then 0 else s.port.offset + 1
      sent := some b
      holding := h
      configLocked := locked } }

section
variable {s : State} (reading : s.port.transaction = .reading) (running : s.porstn = false)
  (inside : s.port.outOfWindow = false) (inWindow : s.port.offset.toNat ≤ 0x03FF) (acknowledged : Bool)
include reading running

theorem exec_snapshotRead_outside (outside : s.port.outOfWindow = true) :
    exec (.snapshotRead acknowledged) s = .next (s.sendOutOfWindow acknowledged) := by
  show Host.Outcome.next (s.readByte acknowledged) = _
  rw [State.readByte, if_neg (by simp [running, reading]), if_pos outside]

include inside inWindow

theorem exec_snapshotRead_of_sent {b : Byte} {h : Option Holding} {locked : Bool}
    (sent : s.readByteAt s.port.offset = { s with port := { s.port with
      sent := some b, holding := h, configLocked := locked } }) :
    exec (.snapshotRead acknowledged) s = .next (sentByte s acknowledged b h locked) := by
  show Host.Outcome.next (s.readByte acknowledged) = _
  rw [State.readByte, if_neg (by simp [running, reading]), if_neg (by simp [inside]), sent, State.pastRead, sentByte,
    if_pos rfl, advanceOffset_eq inWindow, ← reading]

theorem exec_snapshotRead_of_row {x : WindowRow} (row : isRow s x) (holds : x.holds s.port.offset.toNat) :
    exec (.snapshotRead acknowledged) s = .next (sentByte s acknowledged
      (s.fieldByte x.field (s.port.offset.toNat - x.offset)) (s.heldAfter x.field (s.port.offset.toNat - x.offset))
      (if x.field = .status then false else s.port.configLocked)) := by
  refine exec_snapshotRead_of_sent reading running inside inWindow acknowledged ?_
  simp only [State.readByteAt, fieldAt_row row holds, (row_field row).start]
  rfl

end

theorem exec_statusByteRead {s : State} (takes : portTakes s) (acknowledged : Bool) :
    exec (.statusByteRead acknowledged) s = .next ((s.readField .status 0).pastRead 0x0000 acknowledged) := by
  obtain ⟨running, inside⟩ := takes
  show execStatusByteRead acknowledged s = _
  rw [execStatusByteRead, if_neg (Bool.eq_false_iff.1 running), if_neg (Bool.eq_false_iff.1 inside)]

theorem fieldByte_status (s : State) : s.fieldByte .status 0 = s.statusByte := by
  rw [fieldByte_lowest]
  show (s.statusByte.setWidth 64).extractLsb' 0 8 = s.statusByte
  ext i hi
  have : i < 64 := by omega
  simp [this, hi]

/-- Settles O47: the byte's row gives the field, and the holding register its copy. -/
theorem bytesAreReadThroughTheCopy : Obligations.BytesAreReadThroughTheCopy := by
  refine ⟨?_, fun s acknowledged takes => ?_⟩
  · rintro s t acknowledged _ reading running rfl inWindow rfl
    refine ⟨fun outside => ?_, fun inside => ⟨fun none => ?_, fun x k row holds hk => ?_⟩⟩
    · rw [exec_snapshotRead_outside reading running acknowledged outside, State.sendOutOfWindow, reading]
    · refine exec_snapshotRead_of_sent reading running inside inWindow acknowledged ?_
      simp only [State.readByteAt, fieldAt_none inWindow none]
    · obtain ⟨start, size, value⟩ := row_field row
      rw [exec_snapshotRead_of_row reading running inside inWindow acknowledged row holds, ← hk]
      have lowest : s.fieldByte x.field 0 = BitVec.ofNat 8 x.value := by
        rw [fieldByte_lowest, value, byteOf_lowest]
      have notStatus : 1 < x.bytes → x.field ≠ .status := fun long status => by
        rw [status] at size
        have : Field.status.size = 1 := rfl
        omega
      refine ⟨fun one => ?single, fun long first => ?first, fun long above => ⟨fun v held => ?held, fun live => ?live⟩⟩
      case single =>
        have first : k = 0 := by
          obtain ⟨above, below⟩ := holds
          omega
        rw [first, lowest, heldAfter_single (size.trans one)]
        rfl
      case first =>
        rw [first, lowest, heldAfter_lowest (by omega), value, if_neg (notStatus long)]
        rfl
      case held =>
        rw [fieldByte_held held above, heldAfter_held held (by omega) above, if_neg (notStatus long), ← held]
        rfl
      case live =>
        rw [fieldByte_live live, heldAfter_live live (by omega) above, if_neg (notStatus long), value]
        rfl
  · rw [exec_statusByteRead takes, State.readField, fieldByte_status, heldAfter_single rfl]
    rfl

end Sys2Proof.Whole
end

section
/-! What each command may change of the settings, the flags and the queue: every shared operation keeps them but for
what it is exempt from, and the exemptions of a command are those of its operations. -/

namespace Sys2Proof.Whole

open Sys2Proof.Machine Sys2Proof.Safety Sys2Proof.Laws

/-! ### Exemptions -/

/-- What a command may change: the flags it may set, by their bits, and the parts of the state. -/
structure Exempt where
  flags : List Nat := []
  timestamp : Bool := false
  config : Bool := false
  masks : Bool := false
  address : Bool := false
  lrstn : Bool := false
  porstn : Bool := false
  enabled : Bool := false
  cleared : Bool := false

/-- What names the entries of the queue, in their order. -/
def entriesOf (s : State) : List (Addr × List WriteWord × EntryKind) := s.pwq.map fun e => (e.address, e.words, e.kind)

/-- The configurations and settings that software writes at the registers. -/
structure Configured where
  rings : Vector RingConfig 8
  noticeBase : Addr
  returnAddress : Addr
  slotCode : Byte
  discardTime : BitVec 16
  budget : BitVec 16
  backoff : Byte

def configuredOf (s : State) : Configured :=
  { rings := s.config, noticeBase := s.notices.base, returnAddress := s.notices.returnAddress,
    slotCode := s.notices.slotCode, discardTime := s.discardTime, budget := s.link.budget, backoff := s.link.backoff }

/-- What only named commands change. -/
structure Guarded where
  pending : List Instr
  timestamp : BitVec 32
  configured : Configured
  masks : BitVec 9
  address : BitVec 7
  lrstn : Bool
  porstn : Bool
  enabled : Bool
  flags : BitVec 9
  entries : List (Addr × List WriteWord × EntryKind)

def guardedOf (s : State) : Guarded :=
  { pending := s.pending, timestamp := s.timestamp, configured := configuredOf s, masks := s.events.masks,
    address := s.port.address, lrstn := s.lrstn, porstn := s.porstn, enabled := s.notices.enabled,
    flags := s.events.flags, entries := entriesOf s }

/-- The change from s to t is one of the exempt ones, and at most `joins` writes have joined the queue, behind those that
have not left it at its head. -/
structure Frame (x : Exempt) (joins : Nat) (s t : State) : Prop where
  pending : t.pending = s.pending
  timestamp : x.timestamp = false → t.timestamp = s.timestamp
  config : x.config = false → configuredOf t = configuredOf s
  masks : x.masks = false → t.events.masks = s.events.masks
  address : x.address = false → t.port.address = s.port.address
  lrstn : x.lrstn = false → t.lrstn = s.lrstn
  porstn : x.porstn = false → t.porstn = s.porstn
  enabled : x.enabled = false → t.notices.enabled = s.notices.enabled
  kept : x.cleared = false → ∀ i, s.events.flags.getLsbD i = true → t.events.flags.getLsbD i = true
  raised : ∀ i, t.events.flags.getLsbD i = true → s.events.flags.getLsbD i = true ∨ i ∈ x.flags
  queue : ∃ n new, new.length ≤ joins ∧ entriesOf t = (entriesOf s).drop n ++ new

section
variable {x : Exempt} {k : Nat} {s t u : State}

theorem Frame.of_guarded (same : guardedOf t = guardedOf s) : Frame x k s t := by
  have flags : t.events.flags = s.events.flags := congrArg Guarded.flags same
  have entries : entriesOf t = entriesOf s := congrArg Guarded.entries same
  exact {
    pending := congrArg Guarded.pending same
    timestamp := fun _ => congrArg Guarded.timestamp same
    config := fun _ => congrArg Guarded.configured same
    masks := fun _ => congrArg Guarded.masks same
    address := fun _ => congrArg Guarded.address same
    lrstn := fun _ => congrArg Guarded.lrstn same
    porstn := fun _ => congrArg Guarded.porstn same
    enabled := fun _ => congrArg Guarded.enabled same
    kept := fun _ i set => by rwa [flags]
    raised := fun i set => .inl (by rwa [flags] at set)
    queue := ⟨0, [], Nat.zero_le k, by simp [entries]⟩ }

theorem Frame.refl (s : State) : Frame x k s s := .of_guarded rfl

/-- The parts but for the queue, over two changes. -/
theorem Frame.chain {l j : Nat} (h : Frame x k s t) (g : Frame x l t u)
    (queue : ∃ n new, new.length ≤ j ∧ entriesOf u = (entriesOf s).drop n ++ new) : Frame x j s u where
  pending := g.pending.trans h.pending
  timestamp e := (g.timestamp e).trans (h.timestamp e)
  config e := (g.config e).trans (h.config e)
  masks e := (g.masks e).trans (h.masks e)
  address e := (g.address e).trans (h.address e)
  lrstn e := (g.lrstn e).trans (h.lrstn e)
  porstn e := (g.porstn e).trans (h.porstn e)
  enabled e := (g.enabled e).trans (h.enabled e)
  kept e i set := g.kept e i (h.kept e i set)
  raised i set := (g.raised i set).elim (h.raised i) .inr
  queue := queue

/-- What leaves after a join leaves at the head, or is the write that joined. -/
theorem Frame.trans (h : Frame x k s t) (g : Frame x 0 t u) : Frame x k s u := by
  refine h.chain g ?_
  obtain ⟨n, new, few, before⟩ := h.queue
  obtain ⟨m, none, nothing, after⟩ := g.queue
  rw [List.length_eq_zero_iff.1 (Nat.le_zero.1 nothing), before, List.append_nil, List.drop_append, List.drop_drop] at after
  exact ⟨n + m, _, (by rw [List.length_drop]; omega), after⟩

/-- A write joins behind what has not left. -/
theorem Frame.join (h : Frame x 0 s t) (g : Frame x k t u) : Frame x k s u := by
  refine h.chain g ?_
  obtain ⟨n, none, nothing, before⟩ := h.queue
  obtain ⟨m, new, few, after⟩ := g.queue
  rw [before, List.length_eq_zero_iff.1 (Nat.le_zero.1 nothing), List.append_nil, List.drop_drop] at after
  exact ⟨n + m, new, few, after⟩

theorem Frame.after (g : Frame x k t u) (same : guardedOf t = guardedOf s) : Frame x k s u :=
  (Frame.of_guarded same).join g

theorem Frame.mono (h : Frame x 0 s t) : Frame x k s t := h.join (.refl t)

end

/-! ### The operations on rings and sectors -/

theorem mask_bit (f : EventFlag) (i : Nat) (h : f.mask.getLsbD i = true) : i = f.bit := by
  simp only [EventFlag.mask, BitVec.getLsbD_shiftLeft, BitVec.getLsbD_one, Bool.and_eq_true, decide_eq_true_eq,
    Bool.not_eq_true', decide_eq_false_iff_not] at h
  omega

theorem frame_post {x : Exempt} {f : EventFlag} (may : f.bit ∈ x.flags) (s : State) : Frame x 0 s (s.post f) where
  pending := rfl
  timestamp _ := rfl
  config _ := rfl
  masks _ := rfl
  address _ := rfl
  lrstn _ := rfl
  porstn _ := rfl
  enabled _ := rfl
  kept _ i set := by simp [State.post, set]
  raised i set := by
    rw [State.post, BitVec.getLsbD_or, Bool.or_eq_true] at set
    exact set.imp_right fun bit => mask_bit f i bit ▸ may
  queue := ⟨0, [], Nat.le_refl 0, by simp [entriesOf]⟩

theorem frame_dropHead (x : Exempt) (s : State) : Frame x 0 s s.dropHead where
  pending := rfl
  timestamp _ := rfl
  config _ := rfl
  masks _ := rfl
  address _ := rfl
  lrstn _ := rfl
  porstn _ := rfl
  enabled _ := rfl
  kept _ _ set := set
  raised _ set := .inl set
  queue := ⟨1, [], Nat.le_refl 0, by simp [entriesOf, State.dropHead]⟩

theorem frame_reportLost {x : Exempt} (lost : Bool) (mayLose : lost = true → EventFlag.writeLost.bit ∈ x.flags) (s : State) :
    Frame x 0 s (s.reportLost lost) := by
  cases lost with
  | false => exact .refl s
  | true => exact (frame_post (mayLose rfl) _).after rfl

section
variable {x : Exempt} (may : EventFlag.noticeOverrun.bit ∈ x.flags)
include may

theorem frame_pushNotice (s : State) (n : Notice) : Frame x 0 s (s.pushNotice n) := by
  obtain ⟨-, h⟩ | ⟨-, h⟩ := pushNotice_cases s n <;> rw [h]
  · exact .of_guarded rfl
  · exact (frame_post may _).after rfl

theorem frame_generate (s : State) (n : Notice) : Frame x 0 s (s.generate n) := by
  obtain ⟨-, h⟩ | ⟨-, h⟩ := generate_cases s n <;> rw [h]
  · exact .refl s
  · exact (frame_pushNotice may _ _).after rfl

theorem frame_turnOff (s : State) (r : RingNo) (t : NoticeType) : Frame x 0 s (s.turnOff r t) :=
  (frame_generate may _ _).after rfl

theorem frame_stopTest (s : State) (r : RingNo) : Frame x 0 s (s.stopTest r) := by
  obtain ⟨-, -, -, h⟩ | ⟨-, h⟩ := stopTest_cases s r <;> rw [h]
  · exact frame_turnOff may s r _
  · exact .refl s

theorem frame_purgeTest (s : State) (r : RingNo) : Frame x 0 s (s.purgeTest r) := by
  obtain ⟨-, -, h⟩ | ⟨-, h⟩ := purgeTest_cases s r <;> rw [h]
  · exact frame_turnOff may s r _
  · exact .refl s

theorem frame_becomeReady (s : State) (r : RingNo) (i : SectorNo) : Frame x 0 s (s.becomeReady r i) := by
  obtain ⟨t, rfl, ⟨-, h⟩ | ⟨-, h⟩⟩ := becomeReady_cases s r i <;> rw [h]
  · exact (frame_generate may _ _).after rfl
  · exact .of_guarded rfl

theorem frame_settle (s : State) (r : RingNo) (i : SectorNo) : Frame x 0 s (s.settle r i) := by
  obtain ⟨-, -, h⟩ | ⟨-, -, h⟩ | ⟨-, -, h⟩ | ⟨-, h⟩ := settle_cases s r i <;> rw [h]
  · exact frame_becomeReady may s r i
  · exact (frame_stopTest may _ _).after rfl
  · exact (frame_purgeTest may _ _).after rfl
  · exact .refl s

theorem frame_closeOpen (s : State) (r : RingNo) (mark : SectorFlags → SectorFlags) :
    Frame x 0 s (s.closeOpen r mark) :=
  (frame_settle may _ _ _).after rfl

theorem frame_closeCurrent (s : State) (r : RingNo) (mark : SectorFlags → SectorFlags) :
    Frame x 0 s (s.closeCurrent r mark) := by
  unfold State.closeCurrent
  split
  · exact (frame_closeOpen may s r mark).trans (frame_stopTest may _ _)
  · exact (frame_stopTest may _ _).after rfl
  · exact .refl s

/-! ### The departure of the head -/

theorem frame_leaveSector (s : State) (r : RingNo) (i : SectorNo) (lost : Bool) :
    Frame x 0 s (s.leaveSector r i lost) :=
  (frame_settle may _ _ _).after rfl

theorem frame_popHead (lost : Bool) (mayLose : lost = true → EventFlag.writeLost.bit ∈ x.flags) (s : State) :
    Frame x 0 s (s.popHead lost) := by
  have dropped : Frame x 0 s (s.dropHead.reportLost lost) :=
    (frame_dropHead x s).trans (frame_reportLost lost mayLose _)
  cases queue : s.pwq with
  | nil =>
    rw [State.popHead, queue]
    exact .refl s
  | cons e q =>
    rw [popHead_cons s lost queue]
    cases e.kind with
    | pass => exact dropped
    | fill r i | close r i | release r i => exact dropped.trans (frame_leaveSector may _ _ _ _)

theorem frame_retireUpTo : ∀ n (s : State), Frame x 0 s (State.retireUpTo n s)
  | 0, s => .refl s
  | n + 1, s => by
    unfold State.retireUpTo
    split
    · exact (frame_popHead may false nofun s).trans (frame_retireUpTo n _)
    · exact .refl s

theorem frame_retire (s : State) : Frame x 0 s s.retire := frame_retireUpTo may _ s

theorem frame_depart (lost : Bool) (mayLose : lost = true → EventFlag.writeLost.bit ∈ x.flags) (s : State) :
    Frame x 0 s (s.depart lost) :=
  (frame_popHead may lost mayLose s).trans (frame_retire may _)

end

end Sys2Proof.Whole
end

section
/-! The commands by their operations: each changes what its exemptions name. -/

namespace Sys2Proof.Whole

open Sys2Proof.Machine Sys2Proof.Safety Sys2Proof.Laws

/-! ### Requests on the host link -/

theorem frame_enqueue (x : Exempt) (s : State) (e : QueueEntry) : Frame x 1 s (s.enqueue e) where
  pending := rfl
  timestamp _ := rfl
  config _ := rfl
  masks _ := rfl
  address _ := rfl
  lrstn _ := rfl
  porstn _ := rfl
  enabled _ := rfl
  kept _ _ set := set
  raised _ set := .inl set
  queue := ⟨0, [(e.address, e.words, e.kind)], Nat.le_refl 1, by simp [entriesOf, State.enqueue]⟩

theorem Frame.accepted {x : Exempt} {k : Nat} {s t : State} (h : Frame x k s t) : Frame x k s t.answerAccept :=
  h.trans (.of_guarded rfl)

theorem frame_answerFault {x : Exempt} (may : EventFlag.faultSent.bit ∈ x.flags) (s : State) (f : FaultReason) :
    Frame x 0 s (s.answerFault f) :=
  Frame.trans (t := (s.countFault f).post .faultSent) ((frame_post may _).after rfl) (.of_guarded rfl)

theorem frame_answerRingFault {x : Exempt} (may : EventFlag.faultSent.bit ∈ x.flags) (s : State) (r : RingNo)
    (role : Role) (f : FaultReason) : Frame x 0 s (s.answerRingFault r role f) :=
  (frame_answerFault may _ f).after rfl

section
variable {x : Exempt} (dropped : EventFlag.noticeOverrun.bit ∈ x.flags) (fault : EventFlag.faultSent.bit ∈ x.flags)

theorem frame_passWrite (x : Exempt) (s : State) (q : WriteRequest) : Frame x 1 s (s.passWrite q) := by
  unfold State.passWrite
  split
  · exact (frame_enqueue x s _).accepted
  · exact .of_guarded rfl

theorem frame_snoop (bad : EventFlag.noticeIndexBad.bit ∈ x.flags) (s : State) (v : Word) :
    Frame x 0 s (s.snoop v) := by
  unfold State.snoop
  extract_lets r'
  split
  · exact .of_guarded rfl
  · exact frame_post bad s

theorem frame_returnWrite (bad : EventFlag.noticeIndexBad.bit ∈ x.flags) (s : State) (q : WriteRequest) :
    Frame x 1 s (s.returnWrite q) := by
  unfold State.returnWrite
  split
  · split
    · exact (frame_passWrite x s q).trans (frame_snoop bad _ _)
    · exact frame_passWrite x s q
  · exact .of_guarded rfl

include dropped

theorem frame_storeWrite (s : State) (r : RingNo) (w : Nat) (q : WriteRequest) :
    Frame x 1 s (s.storeWrite r w q) := by
  unfold State.storeWrite
  extract_lets i y
  split
  · refine Frame.accepted ((frame_enqueue x _ _).after ?_)
    rfl
  · refine Frame.accepted (.trans ((frame_enqueue x _ _).after ?_) (frame_stopTest dropped _ _))
    rfl

theorem frame_shadowWrite (s : State) (r : RingNo) (w : Nat) (q : WriteRequest) :
    Frame x 1 s (s.shadowWrite r w q) := by
  unfold State.shadowWrite
  split
  · exact .of_guarded rfl
  · refine Frame.mono (.accepted ((frame_stopTest dropped _ _).after ?_))
    rfl

theorem frame_takeProducerWrite (s : State) (r : RingNo) (w : Nat) (q : WriteRequest) :
    Frame x 1 s (s.takeProducerWrite r w q) := by
  unfold State.takeProducerWrite
  split
  · split
    · split
      · exact (frame_storeWrite dropped _ _ _ _).after rfl
      · exact .of_guarded rfl
    · split
      · exact (frame_shadowWrite dropped _ _ _ _).after rfl
      · exact .of_guarded rfl
  · split
    · exact frame_storeWrite dropped _ _ _ _
    · exact .of_guarded rfl
  · exact frame_shadowWrite dropped _ _ _ _

include fault

theorem frame_producerWrite (s : State) (r : RingNo) (i : SectorNo) (w : Nat) (q : WriteRequest) :
    Frame x 1 s (s.producerWrite r i w q) := by
  unfold State.producerWrite
  split
  · exact (frame_answerRingFault fault _ _ _ _).mono
  split
  · exact (frame_answerRingFault fault _ _ _ _).mono
  split
  · exact (frame_answerRingFault fault _ _ _ _).mono
  split
  · exact (frame_answerRingFault fault _ _ _ _).mono
  · exact frame_takeProducerWrite dropped _ _ _ _

omit dropped

theorem frame_release (s : State) (r : RingNo) (i : SectorNo) (q : WriteRequest) : Frame x 1 s (s.release r i q) := by
  unfold State.release
  split
  · split
    · refine Frame.accepted ((frame_enqueue x _ _).after ?_)
      rfl
    · exact .of_guarded rfl
  · exact (frame_answerRingFault fault _ _ _ _).mono

include dropped

theorem frame_ringWrite (s : State) (r : RingNo) (i : SectorNo) (w : Nat) (role : Role) (q : WriteRequest) :
    Frame x 1 s (s.ringWrite r i w role q) := by
  unfold State.ringWrite
  split
  · exact (frame_answerRingFault fault _ _ _ _).mono
  · cases role with
    | other | monitor => exact (frame_answerRingFault fault _ _ _ _).mono
    | consumer =>
      simp only []
      split
      · exact frame_release fault _ _ _ _
      · exact (frame_answerRingFault fault _ _ _ _).mono
    | producer => exact frame_producerWrite dropped fault _ _ _ _ _

theorem frame_takeWrite (bad : EventFlag.noticeIndexBad.bit ∈ x.flags) (s : State) (q : WriteRequest) :
    Frame x 1 s (s.takeWrite q) := by
  unfold State.takeWrite
  split
  · split
    · exact frame_passWrite x s q
    · exact frame_returnWrite bad s q
    · exact frame_ringWrite dropped fault _ _ _ _ _ _
  · exact .of_guarded rfl

omit dropped

theorem frame_answerReadFault (s : State) (inRing : Option (RingNo × Role)) (f : FaultReason) :
    Frame x 0 s (s.answerReadFault inRing f) := by
  unfold State.answerReadFault
  split
  · exact frame_answerRingFault fault _ _ _ _
  · exact frame_answerFault fault _ _

theorem frame_collect (s : State) (k : ReadRequest) (inRing : Option (RingNo × Role)) (y : ReadResult) :
    Frame x 0 s (s.collect k inRing y) := by
  unfold State.collect
  split
  · exact .of_guarded rfl
  · exact (frame_answerReadFault fault _ _ _).after rfl
  · exact (frame_answerReadFault fault _ _ _).after rfl

omit fault

theorem frame_createRead (x : Exempt) (s : State) (k : ReadRequest) (tag : Option (RingNo × SectorNo)) :
    Frame x 0 s (s.createRead k tag) := by
  unfold State.createRead
  split <;> exact .of_guarded rfl

include fault

theorem frame_matchRead {s : State} (k : ReadRequest) (inRing : Option (RingNo × Role)) {unmatched : State}
    (h : Frame x 0 s unmatched) : Frame x 0 s (s.matchRead k inRing unmatched) := by
  unfold State.matchRead
  split
  · split
    · exact .of_guarded rfl
    · exact .of_guarded rfl
    · exact frame_collect fault _ _ _ _
  · exact h

theorem frame_gate (s : State) (r : RingNo) (i : SectorNo) (role : Role) (k : ReadRequest) :
    Frame x 0 s (s.gate r i role k) := by
  unfold State.gate
  cases (s.record r i).state with
  | ready => exact frame_createRead x _ _ _
  | closing => exact .of_guarded rfl
  | free | filling | releasing | purging => exact frame_answerRingFault fault _ _ _ _

theorem frame_ringRead (s : State) (r : RingNo) (i : SectorNo) (role : Role) (k : ReadRequest) :
    Frame x 0 s (s.ringRead r i role k) := by
  unfold State.ringRead
  split
  · exact frame_answerRingFault fault _ _ _ _
  · cases role with
    | other => exact frame_answerRingFault fault _ _ _ _
    | producer => exact frame_matchRead fault _ _ (frame_createRead x _ _ _)
    | consumer | monitor => exact frame_matchRead fault _ _ (frame_gate fault _ _ _ _ _)

theorem frame_takeRead (s : State) (k : ReadRequest) : Frame x 0 s (s.takeRead k) := by
  unfold State.takeRead
  split
  · split
    · exact frame_matchRead fault _ _ (frame_createRead x _ _ _)
    · exact frame_matchRead fault _ _ (frame_createRead x _ _ _)
    · exact frame_ringRead fault _ _ _ _ _
  · exact .of_guarded rfl

end

/-! ### The memory link -/

theorem frame_grant (x : Exempt) (s : State) : Frame x 0 s s.grant := by
  have issued : ∀ q, guardedOf (s.issue q) = guardedOf s := by
    intro q
    cases q with
    | pwq =>
      show guardedOf s.issueHead = _
      unfold State.issueHead
      split <;> rfl
    | drt =>
      show guardedOf (match s.offeredRead with
        | some e => s.issueRead e
        | none => s) = _
      split
      · unfold State.issueRead
        extract_lets issued
        split <;> rfl
      · rfl
    | notice =>
      show guardedOf s.issueNotice = _
      unfold State.issueNotice
      split <;> rfl
  unfold State.grant
  split
  · exact .of_guarded (issued _)
  · exact .refl s

theorem frame_okay {x : Exempt} (dropped : EventFlag.noticeOverrun.bit ∈ x.flags) (s : State) (tag : BitVec 2)
    (data : List Word) : Frame x 0 s (s.okay tag data) := by
  unfold State.okay
  split
  · exact .refl s
  · exact .of_guarded rfl
  · exact (frame_depart dropped false nofun _).after rfl
  · exact .of_guarded rfl
  · exact .of_guarded rfl

theorem frame_error {x : Exempt} (dropped : EventFlag.noticeOverrun.bit ∈ x.flags)
    (lost : EventFlag.writeLost.bit ∈ x.flags) (memory : EventFlag.memError.bit ∈ x.flags)
    (notice : EventFlag.noticeLost.bit ∈ x.flags) (s : State) (tag : BitVec 2) : Frame x 0 s (s.error tag) := by
  have flagged : Frame x 0 s ((s.freeSlot tag).post .memError) := (frame_post memory _).after rfl
  unfold State.error
  split
  · exact .refl s
  · exact .of_guarded rfl
  · exact flagged.trans (frame_depart dropped true (fun _ => lost) _)
  · exact flagged.trans ((frame_post notice _).after rfl)
  · exact flagged.trans (.of_guarded rfl)

theorem guardedOf_raised (s : State) : guardedOf s.raiseHeadAttempts = guardedOf s := by
  have entries : entriesOf s.raiseHeadAttempts = entriesOf s := raiseHeadAttempts_entries s
  unfold guardedOf
  rw [entries]
  unfold State.raiseHeadAttempts
  split <;> rfl

theorem frame_headBusy {x : Exempt} (dropped : EventFlag.noticeOverrun.bit ∈ x.flags)
    (lost : EventFlag.writeLost.bit ∈ x.flags) (s : State) : Frame x 0 s s.headBusy := by
  have raised : Frame x 0 s s.raiseHeadAttempts := .of_guarded (guardedOf_raised s)
  unfold State.headBusy
  extract_lets t
  split
  · exact raised.trans (frame_depart dropped true (fun _ => lost) _)
  · split
    · exact raised.trans (frame_depart dropped false nofun _)
    · exact raised.trans (.of_guarded rfl)

theorem frame_noticeBusy {x : Exempt} (notice : EventFlag.noticeLost.bit ∈ x.flags) (s : State) :
    Frame x 0 s s.noticeBusy := by
  unfold State.noticeBusy
  split
  · exact .refl s
  · split
    · exact (frame_post notice _).after rfl
    · exact .of_guarded rfl

theorem frame_busy {x : Exempt} (dropped : EventFlag.noticeOverrun.bit ∈ x.flags)
    (lost : EventFlag.writeLost.bit ∈ x.flags) (notice : EventFlag.noticeLost.bit ∈ x.flags) (s : State)
    (tag : BitVec 2) : Frame x 0 s (s.busy tag) := by
  unfold State.busy
  split
  · exact .refl s
  · exact .of_guarded rfl
  · exact (frame_headBusy dropped lost _).after rfl
  · exact (frame_noticeBusy notice _).after rfl
  · exact .of_guarded rfl

theorem frame_endBackoff (x : Exempt) (s : State) (owner : BackoffOwner) : Frame x 0 s (s.endBackoff owner) := by
  cases owner with
  | queueHead =>
    show Frame x 0 s (if _ then _ else _)
    split <;> exact .of_guarded rfl
  | read k => exact .of_guarded rfl
  | noticeHead =>
    show Frame x 0 s s.endNoticeBackoff
    unfold State.endNoticeBackoff
    split
    · exact .refl s
    · split <;> exact .of_guarded rfl

/-! ### Time and reset lines -/

theorem frame_expireFill {x : Exempt} (dropped : EventFlag.noticeOverrun.bit ∈ x.flags)
    (timeout : EventFlag.fillTimeout.bit ∈ x.flags) (s : State) (r : RingNo) : Frame x 0 s (s.expireFill r) := by
  unfold State.expireFill
  split
  · refine .trans ((frame_post timeout _).after ?_) (frame_closeCurrent dropped _ _ _)
    rfl
  · exact .refl s

theorem frame_expireRead {x : Exempt} (expired : EventFlag.readExpired.bit ∈ x.flags) (s : State) (k : ReadRequest) :
    Frame x 0 s (s.expireRead k) := by
  unfold State.expireRead
  split
  · split
    · exact (frame_post expired _).after rfl
    · exact .refl s
  · exact .refl s

theorem frame_linkReset {x : Exempt} (dropped : EventFlag.noticeOverrun.bit ∈ x.flags)
    (reset : EventFlag.linkReset.bit ∈ x.flags) (s : State) (order : List RingNo) :
    Frame x 0 s (s.linkReset order) := by
  have rings : ∀ (order : List RingNo) (s : State), Frame x 0 s (order.foldl State.abortRing s) := by
    intro order
    induction order with
    | nil => exact fun s => .refl s
    | cons r order ih =>
      refine fun s => Frame.trans (t := s.abortRing r) ?_ (ih _)
      unfold State.abortRing
      split
      · exact frame_closeCurrent dropped _ _ _
      · exact .refl s
  refine .trans ((rings order _).after ?_) (frame_post reset _)
  rfl

/-- A part that is exempt may be anything. -/
theorem exempt_of_true {b : Bool} {p : Prop} (h : b = true) (e : b = false) : p := by
  rw [h] at e
  cases e

/-! ### Commands of the COMMAND register -/

section
variable {x : Exempt}

theorem Frame.result {s t : State} (h : Frame x 0 s t) (code : Byte) (ring : BitVec 4) (v : Verdict) :
    Frame x 0 s (t.loadResult code ring v) := h.trans (.of_guarded rfl)

theorem frame_refuse (s : State) (code : Byte) (ring : BitVec 4) (y : RefusalReason) :
    Frame x 0 s (s.refuse code ring y) := .of_guarded rfl

theorem frame_commandEnable (s : State) (ring : BitVec 4) : Frame x 0 s (s.commandEnable ring) := by
  unfold State.commandEnable
  split
  · exact frame_refuse _ _ _ _
  split
  · exact frame_refuse _ _ _ _
  split
  · exact frame_refuse _ _ _ _
  split
  · exact frame_refuse _ _ _ _
  · exact .of_guarded rfl

theorem frame_commandStop (dropped : EventFlag.noticeOverrun.bit ∈ x.flags) (s : State) (ring : BitVec 4) :
    Frame x 0 s (s.commandStop ring) := by
  unfold State.commandStop
  split
  · exact frame_refuse _ _ _ _
  split
  · exact frame_refuse _ _ _ _
  · refine Frame.result ((frame_stopTest dropped _ _).after ?_) _ _ _
    rfl

theorem frame_commandPurge (dropped : EventFlag.noticeOverrun.bit ∈ x.flags) (s : State) (ring : BitVec 4) :
    Frame x 0 s (s.commandPurge ring) := by
  unfold State.commandPurge
  split
  · exact frame_refuse _ _ _ _
  split
  · refine Frame.result (.trans ((frame_purgeTest dropped _ _).after ?_) (frame_retire dropped _)) _ _ _
    rfl
  · exact frame_refuse _ _ _ _

theorem frame_commandNoticeEnable (may : x.enabled = true) (s : State) (ring : BitVec 4) :
    Frame x 0 s (s.commandNoticeEnable ring) := by
  unfold State.commandNoticeEnable
  split
  · exact frame_refuse _ _ _ _
  split
  · exact frame_refuse _ _ _ _
  split
  · exact frame_refuse _ _ _ _
  · refine Frame.result ?_ _ _ _
    exact { Frame.refl s with enabled := exempt_of_true may }

theorem frame_commandNoticeDisable (may : x.enabled = true) (s : State) (ring : BitVec 4) :
    Frame x 0 s (s.commandNoticeDisable ring) := by
  unfold State.commandNoticeDisable
  split
  · refine Frame.result ?_ _ _ _
    exact { Frame.refl s with enabled := exempt_of_true may }
  · exact frame_refuse _ _ _ _

theorem frame_commandDatapathReset (may : x.cleared = true) (s : State) (ring : BitVec 4) :
    Frame x 0 s (s.commandDatapathReset ring) := by
  refine Frame.result (t := s.resetDatapath) ?_ _ _ _
  exact { Frame.refl (k := 0) s with
    kept := exempt_of_true may
    raised := fun i set => by simp [State.resetDatapath] at set
    queue := ⟨(entriesOf s).length, [], Nat.le_refl 0, by rw [List.drop_length]; rfl⟩ }

theorem frame_takeCommand (dropped : EventFlag.noticeOverrun.bit ∈ x.flags) (enabled : x.enabled = true)
    (cleared : x.cleared = true) (s : State) (code : Byte) (ring : BitVec 4) :
    Frame x 0 s (s.takeCommand code ring) := by
  unfold State.takeCommand
  split
  · exact frame_commandEnable s ring
  split
  · exact frame_commandStop dropped s ring
  split
  · exact frame_commandPurge dropped s ring
  split
  · exact .of_guarded rfl
  split
  · exact .of_guarded rfl
  split
  · exact frame_commandNoticeEnable enabled s ring
  split
  · exact frame_commandNoticeDisable enabled s ring
  split
  · exact frame_commandDatapathReset cleared s ring
  · exact frame_refuse _ _ _ _

/-! ### The management port -/

theorem Frame.past {s t : State} (h : Frame x 0 s t) (o : BitVec 16) : Frame x 0 s (t.pastByte o) :=
  h.trans (.of_guarded rfl)

theorem frame_clearFlags (may : x.cleared = true) (s : State) (half : RegisterHalf) (b : Byte) :
    Frame x 0 s (s.clearFlags half b) :=
  { Frame.refl s with
    kept := exempt_of_true may
    raised := fun i set => by
      simp only [State.clearFlags, BitVec.getLsbD_and, Bool.and_eq_true] at set
      exact .inl set.1 }

theorem frame_writeMask (may : x.masks = true) (s : State) (half : RegisterHalf) (b : Byte) :
    Frame x 0 s (s.writeMask half b) := { Frame.refl s with masks := exempt_of_true may }

section
variable (dropped : EventFlag.noticeOverrun.bit ∈ x.flags) (config : x.config = true) (masks : x.masks = true)
  (enabled : x.enabled = true) (cleared : x.cleared = true)
include dropped config enabled cleared

theorem frame_store (s : State) (f : Field) (v : BitVec 64) : Frame x 0 s (s.store f v) := by
  unfold State.store
  split
  · exact { Frame.refl s with config := exempt_of_true config }
  · unfold State.storeDiscardTime
    split
    · exact { Frame.refl s with config := exempt_of_true config }
    · exact .refl s
  · exact { Frame.refl s with config := exempt_of_true config }
  · exact { Frame.refl s with config := exempt_of_true config }
  · exact { Frame.refl s with config := exempt_of_true config }
  · exact { Frame.refl s with config := exempt_of_true config }
  · exact { Frame.refl s with config := exempt_of_true config }
  · exact frame_takeCommand dropped enabled cleared s _ _
  · exact .refl s

theorem frame_stage (s : State) (f : Field) (k : Nat) (b : Byte) : Frame x 0 s (s.stage f k b) := by
  unfold State.stage
  extract_lets bytes
  split
  · refine (frame_store dropped config enabled cleared _ _ _).after ?_
    rfl
  · exact .of_guarded rfl

include masks

theorem frame_writeField (s : State) (f : Field) (k : Nat) (b : Byte) : Frame x 0 s (s.writeField f k b) := by
  unfold State.writeField
  split
  · exact .of_guarded rfl
  split
  · exact frame_clearFlags cleared s _ _
  · exact frame_clearFlags cleared s _ _
  · exact frame_writeMask masks s _ _
  · exact frame_writeMask masks s _ _
  · exact .of_guarded rfl
  · split
    · split
      · exact frame_store dropped config enabled cleared s _ _
      · exact frame_stage dropped config enabled cleared s _ _ _
    · exact .refl s

theorem frame_dataByte (s : State) (b : Byte) : Frame x 0 s (s.dataByte b) := by
  unfold State.dataByte
  split
  · exact .of_guarded rfl
  · refine Frame.past ?_ _
    unfold State.writeByteAt
    split
    · exact frame_writeField dropped config masks enabled cleared s _ _ _
    · exact .refl s

end

theorem frame_addressByte (s : State) (a : BitVec 7) (read : Bool) : Frame x 0 s (s.addressByte a read) := by
  unfold State.addressByte
  split <;> exact .of_guarded rfl

theorem frame_offsetBytes (s : State) (high : Byte) (low : Option Byte) : Frame x 0 s (s.offsetBytes high low) := by
  unfold State.offsetBytes State.completeOffset
  split
  · exact .of_guarded rfl
  · split
    · split <;> exact .of_guarded rfl
    · exact .of_guarded rfl

theorem frame_readByte (s : State) (acknowledged : Bool) : Frame x 0 s (s.readByte acknowledged) := by
  unfold State.readByte State.readByteAt
  split
  · exact .of_guarded rfl
  split
  · exact .of_guarded rfl
  · split <;> exact .of_guarded rfl

/-- A byte of a named register leads past it unless the port is deaf. -/
theorem frame_named {s t : State} (o : BitVec 16) (h : Frame x 0 s t) :
    ∃ u, (if s.portDeaf then Host.Outcome.next s.nack else .next (t.pastByte o) : Host.Outcome State Fault Refusal) =
      .next u ∧ Frame x 1 s u := by
  split
  · exact ⟨_, rfl, .of_guarded rfl⟩
  · exact ⟨_, rfl, (h.past o).mono⟩

end

/-! ### Every command -/

/-- What each command is exempt from; a code that is no command's is refused and changes the result alone. -/
def exempt : Instr → Exempt
  | .writeArrival _ => { flags := [EventFlag.noticeOverrun.bit, EventFlag.noticeIndexBad.bit, EventFlag.faultSent.bit] }
  | .readArrival _ => { flags := [EventFlag.faultSent.bit] }
  | .okayResponse _ _ => { flags := [EventFlag.noticeOverrun.bit] }
  | .busyResponse _ =>
    { flags := [EventFlag.writeLost.bit, EventFlag.noticeOverrun.bit, EventFlag.noticeLost.bit] }
  | .errorResponse _ _ => {
    flags := [EventFlag.writeLost.bit, EventFlag.memError.bit, EventFlag.noticeOverrun.bit, EventFlag.noticeLost.bit] }
  | .fillTimerExpiry _ => { flags := [EventFlag.noticeOverrun.bit, EventFlag.fillTimeout.bit] }
  | .discardTimerExpiry _ => { flags := [EventFlag.readExpired.bit] }
  | .lrstnAsserted => { flags := [EventFlag.noticeOverrun.bit, EventFlag.linkReset.bit], lrstn := true }
  | .lrstnNegated => { lrstn := true }
  | .porstnAsserted => { porstn := true }
  | .porstnNegated _ =>
    { timestamp := true, config := true, masks := true, address := true, porstn := true,
      enabled := true, cleared := true }
  | .stop _ => { flags := [EventFlag.noticeOverrun.bit] }
  | .purge _ => { flags := [EventFlag.noticeOverrun.bit] }
  | .noticeEnable _ => { enabled := true }
  | .noticeDisable _ => { enabled := true }
  | .datapathReset _ => { cleared := true }
  | .unknownCommand code _ =>
    if code ∈ commandCodes then
      { flags := [EventFlag.noticeOverrun.bit], enabled := true, cleared := true }
    else {}
  | .registerWrite _ => {
    flags := [EventFlag.noticeOverrun.bit], config := true, masks := true, enabled := true, cleared := true }
  | .eventRegisterWrite _ _ => { cleared := true }
  | .maskWrite _ _ => { masks := true }
  | .tick => { timestamp := true }
  | _ => {}

theorem frame_powerOn (s : State) (ma : BitVec 2) : Frame (exempt (.porstnNegated ma)) 1 s (s.powerOn ma) where
  pending := rfl
  timestamp := nofun
  config := nofun
  masks := nofun
  address := nofun
  lrstn _ := rfl
  porstn := nofun
  enabled := nofun
  kept := nofun
  raised i set := by simp [State.powerOn, State.reset] at set
  queue := ⟨(entriesOf s).length, [], by simp, by rw [List.drop_length]; rfl⟩

/-- Every command answers a next state, and changes what it is exempt from. -/
theorem exec_frame (c : Instr) (s : State) : ∃ t, exec c s = .next t ∧ Frame (exempt c) 1 s t := by
  cases c with
  | writeArrival q =>
    show ∃ t, execWriteArrival q s = .next t ∧ _
    unfold execWriteArrival
    split
    · exact ⟨_, rfl, .of_guarded rfl⟩
    · exact ⟨_, rfl, frame_takeWrite (by simp [exempt]) (by simp [exempt]) (by simp [exempt]) s q⟩
  | readArrival k =>
    show ∃ t, execReadArrival k s = .next t ∧ _
    unfold execReadArrival
    split
    · exact ⟨_, rfl, .of_guarded rfl⟩
    · exact ⟨_, rfl, (frame_takeRead (by simp [exempt]) s k).mono⟩
  | grant => exact ⟨_, rfl, (frame_grant _ s).mono⟩
  | okayResponse tag data => exact ⟨_, rfl, (frame_okay (by simp [exempt]) s tag data).mono⟩
  | busyResponse tag =>
    exact ⟨_, rfl, (frame_busy (by simp [exempt]) (by simp [exempt]) (by simp [exempt]) s tag).mono⟩
  | errorResponse tag kind =>
    exact ⟨_, rfl, (frame_error (by simp [exempt]) (by simp [exempt])
      (by simp [exempt]) (by simp [exempt]) s tag).mono⟩
  | backoffExpiry owner => exact ⟨_, rfl, (frame_endBackoff _ s owner).mono⟩
  | fillTimerExpiry r => exact ⟨_, rfl, (frame_expireFill (by simp [exempt]) (by simp [exempt]) s r).mono⟩
  | discardTimerExpiry k => exact ⟨_, rfl, (frame_expireRead (by simp [exempt]) s k).mono⟩
  | lrstnAsserted =>
    show ∃ t, execLrstnAsserted s = .next t ∧ _
    unfold execLrstnAsserted
    split
    · exact ⟨_, rfl, .refl s⟩
    · refine ⟨_, rfl, ?_⟩
      have reset : Frame (exempt .lrstnAsserted) 0 s (s.linkReset (ringOrder s.orderChoice)) :=
        frame_linkReset (by simp [exempt]) (by simp [exempt]) s _
      generalize s.linkReset (ringOrder s.orderChoice) = t at reset
      exact reset.mono.trans { Frame.refl (k := 0) t with lrstn := nofun }
  | lrstnNegated => exact ⟨_, rfl, { Frame.refl (k := 1) s with lrstn := nofun }⟩
  | porstnAsserted => exact ⟨_, rfl, { Frame.refl (k := 1) s with porstn := nofun }⟩
  | porstnNegated ma => exact ⟨_, rfl, frame_powerOn s ma⟩
  | enable ring => exact frame_named _ (frame_commandEnable s ring)
  | stop ring => exact frame_named _ (frame_commandStop (by simp [exempt]) s ring)
  | purge ring => exact frame_named _ (frame_commandPurge (by simp [exempt]) s ring)
  | flushReads ring => exact frame_named (t := s.commandFlushReads ring) _ (.of_guarded rfl)
  | clearCounters ring => exact frame_named (t := s.commandClearCounters ring) _ (.of_guarded rfl)
  | noticeEnable ring => exact frame_named _ (frame_commandNoticeEnable rfl s ring)
  | noticeDisable ring => exact frame_named _ (frame_commandNoticeDisable rfl s ring)
  | datapathReset ring => exact frame_named _ (frame_commandDatapathReset rfl s ring)
  | unknownCommand code ring =>
    refine frame_named _ ?_
    by_cases known : code ∈ commandCodes
    · exact frame_takeCommand (by simp [exempt, known]) (by simp [exempt, known])
        (by simp [exempt, known]) s code ring
    · rw [takeCommand_of_unknown ring known]
      exact frame_refuse s code ring .noRing
  | deviceAddress a read => exact ⟨_, rfl, (frame_addressByte s a read).mono⟩
  | offset high low => exact ⟨_, rfl, (frame_offsetBytes s high low).mono⟩
  | busStop kind => exact ⟨_, rfl, .of_guarded rfl⟩
  | registerWrite b => exact ⟨_, rfl, (frame_dataByte (by simp [exempt]) rfl rfl rfl rfl s b).mono⟩
  | eventRegisterWrite half b => exact frame_named _ (frame_clearFlags rfl s half b)
  | maskWrite half b => exact frame_named _ (frame_writeMask rfl s half b)
  | inspectionSelect b => exact frame_named (t := s.inspect b) _ (.of_guarded rfl)
  | snapshotRead acknowledged => exact ⟨_, rfl, (frame_readByte s acknowledged).mono⟩
  | statusByteRead acknowledged =>
    show ∃ t, execStatusByteRead acknowledged s = .next t ∧ _
    unfold execStatusByteRead
    split
    · exact ⟨_, rfl, .of_guarded rfl⟩
    · split <;> exact ⟨_, rfl, .of_guarded rfl⟩
  | tick =>
    show ∃ t, execTick s = .next t ∧ _
    unfold execTick
    split
    · exact ⟨_, rfl, .refl s⟩
    · exact ⟨_, rfl, { Frame.refl (k := 1) s with timestamp := nofun }⟩

/-- Settles O2: the next state of a command keeps the queue of commands. -/
theorem everyCommandCompletes : Obligations.EveryCommandCompletes := by
  intro c s
  obtain ⟨t, next, frame⟩ := exec_frame c s
  exact ⟨t, next, frame.pending⟩

/-- The state that a command leads to has its frame. -/
theorem frame_of_exec {c : Instr} {s t : State} (next : exec c s = .next t) : Frame (exempt c) 1 s t := by
  obtain ⟨u, next', frame⟩ := exec_frame c s
  rw [next] at next'
  cases next'
  exact frame

/-- Settles O59: every command's frame says what has left the queue and what has joined it. -/
theorem queueIsFirstInFirstOut : Obligations.QueueIsFirstInFirstOut := fun _ _ _ next => (frame_of_exec next).queue

/-! ### The commands that are exempt, part by part -/

section
variable {c : Instr}

/-- A code that is no command's is exempt from nothing. -/
theorem exempt_unknown {code : Byte} {ring : BitVec 4} (ok : (Instr.unknownCommand code ring).wellFormed = true) :
    exempt (.unknownCommand code ring) = {} :=
  if_neg (of_decide_eq_true ok)

theorem timestamp_of_exempt (ok : c.wellFormed = true) (may : (exempt c).timestamp = true) :
    c = .tick ∨ ∃ ma, c = .porstnNegated ma := by
  cases c with
  | tick => exact .inl rfl
  | porstnNegated ma => exact .inr ⟨ma, rfl⟩
  | unknownCommand => simp [exempt_unknown ok] at may
  | _ => cases may

theorem config_of_exempt (ok : c.wellFormed = true) (may : (exempt c).config = true) :
    (∃ b, c = .registerWrite b) ∨ ∃ ma, c = .porstnNegated ma := by
  cases c with
  | registerWrite b => exact .inl ⟨b, rfl⟩
  | porstnNegated ma => exact .inr ⟨ma, rfl⟩
  | unknownCommand => simp [exempt_unknown ok] at may
  | _ => cases may

theorem masks_of_exempt (ok : c.wellFormed = true) (may : (exempt c).masks = true) :
    (∃ half b, c = .maskWrite half b) ∨ (∃ b, c = .registerWrite b) ∨ ∃ ma, c = .porstnNegated ma := by
  cases c with
  | maskWrite half b => exact .inl ⟨half, b, rfl⟩
  | registerWrite b => exact .inr (.inl ⟨b, rfl⟩)
  | porstnNegated ma => exact .inr (.inr ⟨ma, rfl⟩)
  | unknownCommand => simp [exempt_unknown ok] at may
  | _ => cases may

theorem address_of_exempt (ok : c.wellFormed = true) (may : (exempt c).address = true) :
    ∃ ma, c = .porstnNegated ma := by
  cases c with
  | porstnNegated ma => exact ⟨ma, rfl⟩
  | unknownCommand => simp [exempt_unknown ok] at may
  | _ => cases may

theorem lrstn_of_exempt (ok : c.wellFormed = true) (may : (exempt c).lrstn = true) :
    c = .lrstnAsserted ∨ c = .lrstnNegated := by
  cases c with
  | lrstnAsserted => exact .inl rfl
  | lrstnNegated => exact .inr rfl
  | unknownCommand => simp [exempt_unknown ok] at may
  | _ => cases may

theorem porstn_of_exempt (ok : c.wellFormed = true) (may : (exempt c).porstn = true) :
    c = .porstnAsserted ∨ ∃ ma, c = .porstnNegated ma := by
  cases c with
  | porstnAsserted => exact .inl rfl
  | porstnNegated ma => exact .inr ⟨ma, rfl⟩
  | unknownCommand => simp [exempt_unknown ok] at may
  | _ => cases may

theorem enabled_of_exempt (ok : c.wellFormed = true) (may : (exempt c).enabled = true) :
    (∃ ring, c = .noticeEnable ring) ∨ (∃ ring, c = .noticeDisable ring) ∨ (∃ b, c = .registerWrite b) ∨
      ∃ ma, c = .porstnNegated ma := by
  cases c with
  | noticeEnable ring => exact .inl ⟨ring, rfl⟩
  | noticeDisable ring => exact .inr (.inl ⟨ring, rfl⟩)
  | registerWrite b => exact .inr (.inr (.inl ⟨b, rfl⟩))
  | porstnNegated ma => exact .inr (.inr (.inr ⟨ma, rfl⟩))
  | unknownCommand => simp [exempt_unknown ok] at may
  | _ => cases may

theorem cleared_of_exempt (ok : c.wellFormed = true) (may : (exempt c).cleared = true) :
    (∃ half b, c = .eventRegisterWrite half b) ∨ (∃ b, c = .registerWrite b) ∨
      (∃ ring, c = .datapathReset ring) ∨ ∃ ma, c = .porstnNegated ma := by
  cases c with
  | eventRegisterWrite half b => exact .inl ⟨half, b, rfl⟩
  | registerWrite b => exact .inr (.inl ⟨b, rfl⟩)
  | datapathReset ring => exact .inr (.inr (.inl ⟨ring, rfl⟩))
  | porstnNegated ma => exact .inr (.inr (.inr ⟨ma, rfl⟩))
  | unknownCommand => simp [exempt_unknown ok] at may
  | _ => cases may

end

/-- A part that has changed is exempt. -/
theorem exempt_of_changed {α : Type} {b : Bool} {x y : α} (kept : b = false → x = y) (changed : x ≠ y) :
    b = true :=
  Bool.of_not_eq_false fun e => changed (kept e)

/-- The configurations and settings change together with the record of them. -/
theorem configuredOf_ne {s t : State}
    (changed : t.config ≠ s.config ∨ t.notices.base ≠ s.notices.base ∨
      t.notices.returnAddress ≠ s.notices.returnAddress ∨ t.notices.slotCode ≠ s.notices.slotCode ∨
      t.discardTime ≠ s.discardTime ∨ t.link.budget ≠ s.link.budget ∨ t.link.backoff ≠ s.link.backoff) :
    configuredOf t ≠ configuredOf s := by
  intro same
  obtain ⟨rings, base, returnAddress, slotCode, discard, budget, backoff⟩ := Configured.mk.inj same
  simp [rings, base, returnAddress, slotCode, discard, budget, backoff] at changed

/-- Settles O60: a part that has changed is exempt from the frame of the command, and so is a flag newly set. -/
theorem onlyTheirOwnCommandsChange : Obligations.OnlyTheirOwnCommandsChange := by
  intro s t c ok next
  have frame := frame_of_exec next
  refine ⟨fun ne => timestamp_of_exempt ok (exempt_of_changed frame.timestamp ne),
    fun ne => config_of_exempt ok (exempt_of_changed frame.config (configuredOf_ne ne)),
    fun ne => masks_of_exempt ok (exempt_of_changed frame.masks ne),
    fun ne => address_of_exempt ok (exempt_of_changed frame.address ne),
    fun ne => lrstn_of_exempt ok (exempt_of_changed frame.lrstn ne),
    fun ne => porstn_of_exempt ok (exempt_of_changed frame.porstn ne),
    fun ne => enabled_of_exempt ok (exempt_of_changed frame.enabled ne), fun i unset set => ?_, fun i set unset => ?_⟩
  · have flag : i ∈ (exempt c).flags := (frame.raised i set).resolve_left (by simp [unset])
    clear frame next
    cases c with
    | writeArrival q =>
      simp only [exempt, List.mem_cons, List.not_mem_nil, or_false] at flag
      obtain rfl | rfl | rfl := flag
      · exact .inl ⟨q, rfl⟩
      · exact ⟨q, rfl⟩
      · exact .inl ⟨q, rfl⟩
    | readArrival k =>
      obtain rfl := List.mem_singleton.1 flag
      exact .inr ⟨k, rfl⟩
    | okayResponse tag data =>
      obtain rfl := List.mem_singleton.1 flag
      exact .inr (.inl ⟨tag, data, rfl⟩)
    | busyResponse tag =>
      simp only [exempt, List.mem_cons, List.not_mem_nil, or_false] at flag
      obtain rfl | rfl | rfl := flag
      · exact .inr ⟨tag, rfl⟩
      · exact .inr (.inr (.inr (.inl ⟨tag, rfl⟩)))
      · exact .inr ⟨tag, rfl⟩
    | errorResponse tag kind =>
      simp only [exempt, List.mem_cons, List.not_mem_nil, or_false] at flag
      obtain rfl | rfl | rfl | rfl := flag
      · exact .inl ⟨tag, kind, rfl⟩
      · exact ⟨tag, kind, rfl⟩
      · exact .inr (.inr (.inl ⟨tag, kind, rfl⟩))
      · exact .inl ⟨tag, kind, rfl⟩
    | fillTimerExpiry r =>
      simp only [exempt, List.mem_cons, List.not_mem_nil, or_false] at flag
      obtain rfl | rfl := flag
      · exact .inr (.inr (.inr (.inr (.inl ⟨r, rfl⟩))))
      · exact ⟨r, rfl⟩
    | discardTimerExpiry k =>
      obtain rfl := List.mem_singleton.1 flag
      exact ⟨k, rfl⟩
    | lrstnAsserted =>
      simp only [exempt, List.mem_cons, List.not_mem_nil, or_false] at flag
      obtain rfl | rfl := flag
      · exact .inr (.inr (.inr (.inr (.inr (.inl rfl)))))
      · exact rfl
    | stop ring =>
      obtain rfl := List.mem_singleton.1 flag
      exact .inr (.inr (.inr (.inr (.inr (.inr (.inl ⟨ring, rfl⟩))))))
    | purge ring =>
      obtain rfl := List.mem_singleton.1 flag
      exact .inr (.inr (.inr (.inr (.inr (.inr (.inr (.inl ⟨ring, rfl⟩)))))))
    | registerWrite b =>
      obtain rfl := List.mem_singleton.1 flag
      exact .inr (.inr (.inr (.inr (.inr (.inr (.inr (.inr ⟨b, rfl⟩)))))))
    | unknownCommand => simp [exempt_unknown ok] at flag
    | _ => cases flag
  · refine cleared_of_exempt ok (Bool.of_not_eq_false fun e => ?_)
    simp [frame.kept e i set] at unset

end Sys2Proof.Whole
end

section
/-! The part right after power-on, where the invariants begin: every ring is OFF and every collection is empty. -/

namespace Sys2Proof.Whole

open Sys2Proof.Machine Sys2Proof.Safety Sys2Proof.Laws

theorem reset_window (r : RingNo) : State.reset.window r = none := by simp [State.window, State.reset]

theorem reset_ring (r : RingNo) : State.reset.ring r = {} := by simp [State.ring, State.reset]

theorem reset_record (r : RingNo) (i : SectorNo) : State.reset.record r i = {} := by simp [State.record, State.reset]

theorem bounded_reset : Bounded State.reset :=
  ⟨Nat.zero_le _, Nat.zero_le _, fun _ => Nat.zero_le _, List.nodup_nil, Nat.zero_le _, Nat.zero_le _⟩

theorem consistent_reset : Consistent State.reset := consistent_cleared reset_window reset_ring reset_record rfl

theorem slotsAgree_reset : SlotsAgree State.reset where
  head := by simp [State.reset]
  nonempty := nofun
  readA := nofun
  readB := nofun
  apart := nofun
  held := nofun
  distinct := List.nodup_nil

theorem readsWait_reset : ReadsWait State.reset := nofun

theorem indicesAgree_reset : IndicesAgree State.reset := indicesAgree_empty rfl rfl nofun nofun

theorem taggedReadsReady_reset : TaggedReadsReady State.reset := nofun

theorem windowsApart_reset : WindowsApart State.reset := windowsApart_none reset_window nofun

theorem timersRun_reset : TimersRun State.reset := timersRun_cleared reset_ring

theorem drained_reset : Drained State.reset :=
  have left : Emptied State.reset := emptied_cleared reset_ring rfl
  (drained_iff consistent_reset).2 ⟨nofun, left.rings⟩

/-- Settles O49: each invariant holds where every ring is OFF and every collection is empty. -/
theorem resetMeetsTheInvariants : Obligations.ResetMeetsTheInvariants :=
  ⟨bounded_reset, consistent_reset, slotsAgree_reset, readsWait_reset, indicesAgree_reset, taggedReadsReady_reset,
    windowsApart_reset, timersRun_reset, drained_reset⟩

end Sys2Proof.Whole
end
